-- ==== Sys2Proof/Word.lean ====
section
/-! DEFINITION. The word types: a byte of the host link (R183), a line code (R1), a sequence number (R4). -/

namespace Sys2Proof

/-- One byte of the host link (R183); also a host character (R27). -/
abbrev Byte := BitVec 8

/-- A line code, 0 to 31, one bit for each code unit (R49). -/
abbrev Code := BitVec 5

/-- A sequence number, a count W or a position R: 32 bits, reckoned modulo 2^32 (R4). -/
abbrev Seq := BitVec 32

/-- A two-byte field of a record (R189). -/
abbrev Half := BitVec 16

end Sys2Proof
end

