-- ==== Sys2Proof/Syntax.lean ====
section
/-! DEFINITION. The commands: one constructor for each row of spec/opcode_table.json.
`payload` is the payload of the record (R183) without its kind and length bytes. `time` is the microsecond
at which a pin changes or a byte's stop bit ends, counted from the release of RESET (R45, R184). -/

namespace Sys2Proof

inductive Instr where
  -- reset and the wire of the host link
  | powerOnReset (rateHigh : Bool)
  | hostFramingFault (time : Nat)
  | interByteGapExpiry
  | recordOverrun
  | unknownKind (kind : Byte) (payload : List Byte)
  -- setup and load commands
  | lineSetup (payload : List Byte)
  | printerSetup (payload : List Byte)
  | keyboardSetup (payload : List Byte)
  | punchSetup (payload : List Byte)
  | motorAndBellSetup (payload : List Byte)
  | ringLayout (payload : List Byte)
  | loadCodes (payload : List Byte)
  | loadKeys (payload : List Byte)
  | loadAnswerBack (payload : List Byte)
  | loadRefusalText (payload : List Byte)
  | setMode (payload : List Byte)
  -- LINE ACTION
  | answer
  | originate
  | clear
  | breakSend
  | hereIs
  | haltSend
  | resumeSend
  | cancelSend
  -- PRINTER ACTION, PUNCH ACTION, MOTOR RESTART
  | printerActionStop
  | printerActionResume
  | punchActionStop (count : Byte)
  | punchActionResume (count : Byte)
  | punchActionFeed (count : Byte)
  | motorRestart
  -- text and reader commands
  | writeText (payload : List Byte)
  | writeCodes (payload : List Byte)
  | readEntriesTake (cursor : Byte) (offset : Half) (count : Byte)
  | readEntriesPeek (cursor : Byte) (offset : Half) (count : Byte)
  | moveReader (cursor : Byte) (delta : Half)
  | attachHostReader (cursor : Byte)
  | detachHostReader (cursor : Byte)
  -- status, events, restart
  | status
  | statistics
  | eventSetup (payload : List Byte)
  | eventClear (payload : List Byte)
  | restart
  | outgoingRecordEnd
  -- the line receiver
  | lineInMarkToSpace (time : Nat)
  | lineInSpaceToMark (time : Nat)
  | falseStart
  | characterCompletion
  | claimWithdrawn
  | breakThresholdReached
  | clearThresholdReached
  -- the connection controller
  | callConfirmed
  | originateTimeout
  | clearTimerExpiry
  -- the line transmitter
  | characterBegin
  | characterEnd
  | breakBegin
  | breakEnd
  -- the keyboard
  | keyReading (key : Fin 64) (closed : Bool)
  | repeatTimerExpiry
  -- the print engine
  | printTake
  | wheelTravelBegin
  | printActionBegin
  | implicitNewlineBegin
  | implicitReturnBegin
  | wheelStepEnd
  | strikeComplete
  | advanceComplete
  | returnComplete
  | lineFeedComplete
  -- the punch engine
  | punchTake
  | blankCycleBegin
  | punchActionBegin
  | punchStepComplete
  -- motor, sense inputs, bell
  | motorRunupStart
  | runupTimeout
  | idleCountdownExpiry
  | sensePinChange (input : Fin 6) (level : Bool) (time : Nat)
  | senseDebouncedChange (input : Fin 6)
  | ringBegin
  | ringEnd
  | gapEnd
  -- rows the table adds at its end
  | hostByteReceived (byte : Byte) (time : Nat)
  | unitSample
  deriving DecidableEq, Repr

end Sys2Proof
end

