-- ==== Sys2Proof/Config.lean ====
section
/-! DEFINITION. What the spec leaves open and the model does not choose. -/

namespace Sys2Proof.Config

/-- FREE VALUE (log 6). Where two or more of the part's own timer steps fall at one instant, the spec lets
either be taken first ("can go either way"); which one the part takes when nobody commands it is this
unknown function of a count of such ties. -/
opaque tieBreak : Nat → Nat

end Sys2Proof.Config
end

