-- ==== Sys2Proof/Machine/State.lean ====
section
/-! DEFINITION. The state of the block, plain data: one record for each of the blocks of
spec/00_scope.md, the reset value of each field, and one setter for each field of State. -/

namespace Sys2Proof.Machine

/-! ## The character store (R1 to R26) and the tables (R27 to R41) -/

/-- The two shift planes. -/
inductive Plane where
  | letters
  | figures
  deriving DecidableEq, Repr

/-- The functions of R27, in the order of their values 0 to 8. -/
inductive CodeFn where
  | null
  | printing
  | space
  | cr
  | lf
  | ltrs
  | figs
  | bell
  | wru
  deriving DecidableEq, Repr

/-- One entry of the translation table (R27). -/
structure CodeEntry where
  fn : CodeFn
  glyph : Fin 64
  host : Byte
  deriving DecidableEq, Repr

/-- One entry of the key table (R39); a CODE entry's plane is absent for ANY. -/
inductive KeyEntry where
  | unused
  | code (code : Code) (plane : Option Plane)
  | hereIs
  | repeatKey
  | rubout
  | breakKey
  | feed
  | mode
  deriving DecidableEq, Repr

/-- Origin of a CHAR or ERASE entry (R1). -/
inductive Origin where
  | far
  | own
  | keyboard
  | host
  deriving DecidableEq, Repr

/-- Quality of a received character (R53). -/
inductive Quality where
  | good
  | stopError
  | collided
  deriving DecidableEq, Repr

/-- What only a TRAFFIC CHAR carries (R1). -/
structure Heard where
  quality : Quality
  distortion : Nat
  deriving DecidableEq, Repr

/-- The content of one cell (R1). An ERASE's code is always 31. -/
inductive Entry where
  | char (code : Code) (plane : Plane) (origin : Option Origin) (heard : Option Heard)
  | erase (origin : Option Origin)
  | connect
  | clear
  deriving DecidableEq, Repr

/-- The three rings (R3). -/
inductive RingId where
  | traffic
  | send
  | loc
  deriving DecidableEq, Repr

/-- One ring descriptor with its count W, write place and filled indication (R3 to R5). -/
structure Ring where
  base : Nat
  len : Nat
  w : Seq
  place : Nat
  filled : Bool
  deriving DecidableEq, Repr

structure Rings where
  traffic : Ring
  send : Ring
  loc : Ring
  deriving DecidableEq, Repr

/-- The seven reader cursors, in the order of their numbers 0 to 6 (R6). -/
inductive CursorId where
  | printP
  | printA
  | punchT
  | punchL
  | hostT
  | hostL
  | xmit
  deriving DecidableEq, Repr

/-- A cursor's position R, attached flag and lost count (R6). -/
structure Cursor where
  r : Seq
  attached : Bool
  lost : Nat
  deriving DecidableEq, Repr

structure Cursors where
  printP : Cursor
  printA : Cursor
  punchT : Cursor
  punchL : Cursor
  hostT : Cursor
  hostL : Cursor
  xmit : Cursor
  deriving DecidableEq, Repr

/-- The character store: the cells that hold something, by rising cell number, the rings, the cursors and
the writer planes of SEND and LOCAL (R33). -/
structure Store where
  cells : List (Nat × Entry)
  rings : Rings
  cursors : Cursors
  sendPlane : Plane
  locPlane : Plane
  deriving DecidableEq, Repr

/-- The translation table, the key table and the two records of line codes (R94). -/
structure Tables where
  codes : Vector CodeEntry 64
  keys : Vector KeyEntry 64
  answerBack : List Code
  refusal : List Code
  deriving DecidableEq, Repr

/-! ## Setup values and mode flags -/

/-- The unit order of LINE SETUP (R42). -/
inductive UnitOrder where
  | normal
  | reversed
  deriving DecidableEq, Repr

/-- The twelve line parameters, in the order and units of R42. -/
structure LineSetup where
  unitLength : Nat
  stopFactor : Nat
  orientation : Nat
  order : UnitOrder
  unshift : Bool
  breakUnits : Nat
  clearMs : Nat
  confirmMs : Nat
  originateS : Nat
  breakMs : Nat
  clearSendMs : Nat
  warning : Nat
  deriving DecidableEq, Repr

/-- The four printer values (R126); `width` is the width in force (R127). -/
structure PrinterSetup where
  width : Nat
  margin : Nat
  autoNewline : Bool
  endFeeds : Nat
  deriving DecidableEq, Repr

/-- The three keyboard values (R124). -/
structure KeyboardSetup where
  debounce : Nat
  delayMs : Nat
  periodMs : Nat
  deriving DecidableEq, Repr

/-- The two punch values (R150). -/
structure PunchSetup where
  leader : Nat
  trailer : Nat
  deriving DecidableEq, Repr

/-- Run-up limit, idle time and bell tone (R181). The polarities stand with the sense inputs. -/
structure MotorSetup where
  runupMs : Nat
  idleS : Nat
  tone : Nat
  deriving DecidableEq, Repr

structure Setup where
  line : LineSetup
  printer : PrinterSetup
  keyboard : KeyboardSetup
  punch : PunchSetup
  motor : MotorSetup
  deriving DecidableEq, Repr

inductive StationMode where
  | online
  | localMode
  deriving DecidableEq, Repr

inductive PunchSource where
  | off
  | traffic
  | loc
  deriving DecidableEq, Repr

/-- The seven mode flags (R86), in the order of R193. -/
structure Modes where
  answering : Bool
  answerOnEstablish : Bool
  forcesOnline : Bool
  divert : Bool
  station : StationMode
  source : PunchSource
  farOnly : Bool
  deriving DecidableEq, Repr

/-! ## The line -/

/-- The character in assembly: its start edge, whether that edge took a claim, the next sample 0 to 6, the
code units read so far and the largest deviations (R46 to R50). -/
structure Assembly where
  t0 : Nat
  own : Bool
  next : Nat
  code : Code
  early : Nat
  late : Nat
  deriving DecidableEq, Repr

inductive RxState where
  | hunting
  | assembling (a : Assembly)
  | waitMark
  deriving DecidableEq, Repr

/-- The seven statistics of R57. -/
structure RxStats where
  good : Nat
  stopError : Nat
  collided : Nat
  falseStart : Nat
  peakEarly : Nat
  peakLate : Nat
  warning : Nat
  deriving DecidableEq, Repr

/-- The spacing run in progress: when it began, and whether its break and clear thresholds have been passed
(R63 to R65). The counter's value is read from it and the clock. -/
structure SpacingRun where
  start : Nat
  breakDone : Bool
  clearDone : Bool
  deriving DecidableEq, Repr

/-- The line receiver and the spacing-run counter (R44, R63). `ahead` is the model's own: how many of the
transitions of LINE_IN that wait in the queue a sample has seen already (R45; log 37). -/
structure Receiver where
  state : RxState
  linePlane : Plane
  stats : RxStats
  run : Option SpacingRun
  ahead : Nat
  deriving DecidableEq, Repr

/-- What the key's timing of one character takes from the line parameters: unit length, stop element and unit
order as they stood at its begin. A LINE SETUP taken while it is in flight governs from the next one (R42,
R60, R84). -/
structure Keying where
  unit : Nat
  stop : Nat
  order : UnitOrder
  deriving DecidableEq, Repr

/-- The transmitter's state (R89); a character carries the instant its key opened, its code and its keying, a
break the instant its send time ends. -/
inductive TxState where
  | idle
  | sending (start : Nat) (code : Code) (keying : Keying)
  | breaking (ends : Nat)
  | clearSpacing
  deriving DecidableEq, Repr

/-- Reasons of the halt flag (R101). -/
inductive HaltReason where
  | collision
  | breakReceived
  | host
  deriving DecidableEq, Repr

/-- The echo slot (R99): the code in flight, and, while its start-edge claim stands, the instant at which that
claim is withdrawn, fixed at the begin of the character (R42, R46). -/
structure EchoSlot where
  code : Code
  claim : Option Nat
  deriving DecidableEq, Repr

/-- What the answer-back sequencer holds (R95); `wru` is the WRU mark. -/
inductive Sequencer where
  | empty
  | request (wru : Bool)
  | answerBack (codes : List Code) (wru : Bool)
  | refusal (codes : List Code)
  deriving DecidableEq, Repr

structure Transmitter where
  state : TxState
  echo : Option EchoSlot
  streamPlane : Plane
  halt : Option HaltReason
  sequencer : Sequencer
  breakPending : Bool
  sent : Nat
  dropped : Nat
  deriving DecidableEq, Repr

/-- The eight line states, in the order of their values (R67). -/
inductive LineState where
  | free
  | originating
  | callPending
  | unanswered
  | waking
  | established
  | refusing
  | clearing
  deriving DecidableEq, Repr

inductive CallKind where
  | answered
  | originated
  deriving DecidableEq, Repr

/-- The originate timer (R68): stopped, running to an instant, or expired (R72). -/
inductive OriginateTimer where
  | stopped
  | running (ends : Nat)
  | expired
  deriving DecidableEq, Repr

/-- The connection controller (R67, R68). A timer holds the instant it expires. -/
structure Controller where
  state : LineState
  originate : Bool
  originateTimer : OriginateTimer
  confirmTimer : Option Nat
  clearTimer : Option Nat
  callKind : Option CallKind
  markerOpen : Bool
  deriving DecidableEq, Repr

/-! ## The keyboard -/

/-- One entry of the key state table (R109). -/
inductive KeyState where
  | up
  | pressing (n : Nat)
  | down
  | releasing (n : Nat)
  | suppressed (n : Nat)
  deriving DecidableEq, Repr

/-- The repeating key and the end of its running delay or period (R115, R116). -/
structure Repeating where
  key : Fin 64
  ends : Nat
  deriving DecidableEq, Repr

/-- The keyboard scanner: key states, lock (R118), repeat, feeding marks (R123), the keys that a reload from
CODE while held bars from repeating (R114), and the scan's progress: the condition last read of each contact and
the instant and position of the last reading (R108). -/
structure Keyboard where
  states : Vector KeyState 64
  locked : Bool
  repeating : Option Repeating
  feeding : Vector Bool 64
  barred : Vector Bool 64
  contacts : Vector Bool 64
  lastRead : Option (Nat × Fin 64)
  deriving DecidableEq, Repr

/-! ## The print engine and the punch engine -/

/-- A held slot's content: the entry, the cursor it came through, and whether a MOVE READER has changed that
cursor's R since (R18). -/
structure Held where
  entry : Entry
  cursor : CursorId
  moved : Bool
  deriving DecidableEq, Repr

/-- The type wheel: idle, or travelling to a glyph with the end of the step in flight (R129). -/
inductive Wheel where
  | idle
  | travelling (target : Fin 64) (forward : Bool) (ends : Nat)
  deriving DecidableEq, Repr

/-- A hammer strike in flight; `atWidth`: made at the line width under auto newline off (R130). -/
structure Strike where
  ends : Nat
  atWidth : Bool
  deriving DecidableEq, Repr

inductive Carriage where
  | idle
  | advancing (ends : Nat)
  | returning (ends : Nat)
  deriving DecidableEq, Repr

/-- A line feed in flight and the feeds of an end feed still to come (R139). -/
structure PaperFeed where
  ends : Nat
  more : Nat
  deriving DecidableEq, Repr

/-- The printer's four halt reasons (R143). -/
structure PrinterHalts where
  paper : Bool
  cover : Bool
  carriage : Bool
  host : Bool
  deriving DecidableEq, Repr

/-- The print engine (R149); `newline`: the feed in flight is an implicit newline's (R140; log 18); `wheelAt`
is the wheel position; `strikes` is the printing count (R148). -/
structure Printer where
  held : Option Held
  wheel : Wheel
  wheelAt : Fin 64
  hammer : Option Strike
  carriage : Carriage
  paper : Option PaperFeed
  newline : Bool
  column : Nat
  unsure : Bool
  halts : PrinterHalts
  waitingWidth : Option Nat
  strikes : Nat
  deriving DecidableEq, Repr

/-- One step of the punch mechanism (R155); `holes` has bit k-1 set where magnet Pk is energised, `feedHole`
tells a stroke with PHOLE from an overpunch, `pulsed` a feed over a position already holed from one after a
stroke. -/
inductive PunchStep where
  | stroke (holes : Code) (feedHole : Bool)
  | feed (pulsed : Bool)
  | back
  deriving DecidableEq, Repr

/-- A cycle or erase in progress: its present step, the instant that step ends (absent while it waits for
the motor, R155) and the steps after it. -/
structure PunchWork where
  step : PunchStep
  ends : Option Nat
  rest : List PunchStep
  deriving DecidableEq, Repr

/-- The punch's three halt reasons (R160). -/
structure PunchHalts where
  tapeOut : Bool
  cover : Bool
  host : Bool
  deriving DecidableEq, Repr

/-- The punch engine (R166); `feeds` is the feed request count. -/
structure Punch where
  held : Option Held
  work : Option PunchWork
  feeds : Nat
  runCount : Nat
  eraseDepth : Nat
  halts : PunchHalts
  punched : Nat
  erases : Nat
  deriving DecidableEq, Repr

/-! ## Motor, sense inputs, bell -/

/-- Motor control's states, in the order of their values (R167). -/
inductive MotorState where
  | stopped
  | runup
  | running
  | fault
  deriving DecidableEq, Repr

/-- Motor control with the expiry of the run-up timer and of the idle countdown (R169, R173). -/
structure Motor where
  state : MotorState
  runupEnds : Option Nat
  idleEnds : Option Nat
  deriving DecidableEq, Repr

/-- One sense input (R175, R177): its pin, polarity, debounced and reported states, and the instant since
which its raw state has held. -/
structure SenseInput where
  pin : Bool
  assertedLow : Bool
  debounced : Bool
  reported : Bool
  since : Nat
  deriving DecidableEq, Repr

/-- The cadence phase (R180); a ring keeps the half-period of the tone in force at its beginning. -/
inductive BellPhase where
  | quiet
  | ringing (start : Nat) (half : Nat)
  | gap (start : Nat)
  deriving DecidableEq, Repr

structure Bell where
  count : Nat
  phase : BellPhase
  deriving DecidableEq, Repr

/-! ## The host link and the event table -/

/-- The assembly buffer (R183): empty, a kind byte, or a kind and length byte with the payload so far. -/
inductive Buffer where
  | empty
  | kind (k : Byte)
  | payload (k : Byte) (n : Nat) (bytes : List Byte)
  deriving DecidableEq, Repr

/-- A reply owed and not yet begun: its contents, or a STATUS reply, fixed only when it begins (R202). -/
inductive Reply where
  | record (kind : Byte) (payload : List Byte)
  | status
  deriving DecidableEq, Repr

/-- The record going out: its bytes, when its first byte began, and whether it is a reply (R187). -/
structure Outgoing where
  bytes : List Byte
  start : Nat
  reply : Bool
  deriving DecidableEq, Repr

/-- The host link (R205); `fast` is 38,400 bit/s; `gapFrom` is the end of the last byte's stop bit while a
gap is timed (R184). -/
structure Link where
  fast : Bool
  buffer : Buffer
  resync : Bool
  gapFrom : Option Nat
  waiting : Option Reply
  out : Option Outgoing
  deriving DecidableEq, Repr

/-- One event record (R198). -/
structure EventRecord where
  enabled : Bool
  priority : Nat
  pending : Bool
  count : Nat
  data : Byte
  deriving DecidableEq, Repr

/-! ## The whole state -/

/-- Everything the spec gives the block, the clock and the queue of waiting commands. -/
structure State where
  /-- microseconds since the release of RESET (the 1 us time base; log 2) -/
  now : Nat
  /-- the model's own count of settled ties (log 6) -/
  ticket : Nat
  /-- level of LINE_IN; true is mark (R45) -/
  lineIn : Bool
  /-- the character store (R1 to R26) -/
  store : Store
  /-- code table, key table and the two records (R27, R39, R94) -/
  tables : Tables
  /-- the setup values (R42, R126, R124, R150, R181) -/
  setup : Setup
  /-- the seven mode flags (R86) -/
  modes : Modes
  /-- the line receiver (R44 to R66) -/
  receiver : Receiver
  /-- the line transmitter (R89 to R107) -/
  transmitter : Transmitter
  /-- the connection controller (R67 to R88) -/
  controller : Controller
  /-- the keyboard scanner (R108 to R125) -/
  keyboard : Keyboard
  /-- the print engine (R126 to R149) -/
  printer : Printer
  /-- the punch engine (R150 to R166) -/
  punch : Punch
  /-- motor control (R167 to R174) -/
  motor : Motor
  /-- the six sense inputs (R175 to R178) -/
  sense : Vector SenseInput 6
  /-- the bell generator (R179, R180) -/
  bell : Bell
  /-- the host link (R183 to R189) -/
  link : Link
  /-- the event table (R198 to R201) -/
  events : Vector EventRecord 16
  /-- the commands waiting, first in first out -/
  pending : List Instr
  deriving DecidableEq, Repr

namespace State

def setNow (s : State) (v : Nat) : State := { s with now := v }
def setTicket (s : State) (v : Nat) : State := { s with ticket := v }
def setLineIn (s : State) (v : Bool) : State := { s with lineIn := v }
def setStore (s : State) (v : Store) : State := { s with store := v }
def setTables (s : State) (v : Tables) : State := { s with tables := v }
def setSetup (s : State) (v : Setup) : State := { s with setup := v }
def setModes (s : State) (v : Modes) : State := { s with modes := v }
def setReceiver (s : State) (v : Receiver) : State := { s with receiver := v }
def setTransmitter (s : State) (v : Transmitter) : State := { s with transmitter := v }
def setController (s : State) (v : Controller) : State := { s with controller := v }
def setKeyboard (s : State) (v : Keyboard) : State := { s with keyboard := v }
def setPrinter (s : State) (v : Printer) : State := { s with printer := v }
def setPunch (s : State) (v : Punch) : State := { s with punch := v }
def setMotor (s : State) (v : Motor) : State := { s with motor := v }
def setSense (s : State) (v : Vector SenseInput 6) : State := { s with sense := v }
def setBell (s : State) (v : Bell) : State := { s with bell := v }
def setLink (s : State) (v : Link) : State := { s with link := v }
def setEvents (s : State) (v : Vector EventRecord 16) : State := { s with events := v }
def setPending (s : State) (v : List Instr) : State := { s with pending := v }

end State

/-! ## Outcomes -/

/-- Nothing stops this block: no step answers a fault. The one reason stands for a step that found the
model itself broken; no meaning raises it. -/
inductive Fault where
  /-- Raised by no meaning (safe). -/
  | broken
  deriving DecidableEq, Repr

/-- Reasons to refuse a command. -/
inductive Refusal where
  /-- Raised only by an arm of exec whose row has no meaning yet: there is none (safe). -/
  | notModelled (mnemonic : String)
  deriving DecidableEq, Repr

/-! ## Reset values -/

/-- A ring just reset (R25). -/
def Ring.fresh (base len : Nat) : Ring :=
  { base := base, len := len, w := 0, place := base, filled := false }

/-- The layout at power-on (R3). -/
def Rings.powerOn : Rings :=
  { traffic := Ring.fresh 0 1280, send := Ring.fresh 1280 384, loc := Ring.fresh 1664 384 }

def Cursor.fresh (attached : Bool) : Cursor := { r := 0, attached := attached, lost := 0 }

/-- The cursors at power-on (R7, R26). -/
def Cursors.powerOn : Cursors :=
  { printP := .fresh true, printA := .fresh false, punchT := .fresh false, punchL := .fresh false,
    hostT := .fresh false, hostL := .fresh false, xmit := .fresh true }

def Store.powerOn : Store :=
  { cells := [], rings := .powerOn, cursors := .powerOn, sendPlane := .letters, locPlane := .letters }

def CodeEntry.null : CodeEntry := { fn := .null, glyph := 0, host := 0 }

/-- R41, R89. -/
def Tables.powerOn : Tables :=
  { codes := Vector.replicate 64 .null, keys := Vector.replicate 64 .unused, answerBack := [], refusal := [] }

/-- The defaults of R42, R126, R124, R150 and R181. -/
def Setup.powerOn : Setup :=
  { line :=
      { unitLength := 20000, stopFactor := 150, orientation := 50, order := .normal, unshift := false,
        breakUnits := 15, clearMs := 2000, confirmMs := 100, originateS := 30, breakMs := 500,
        clearSendMs := 3000, warning := 35 }
    printer := { width := 72, margin := 64, autoNewline := true, endFeeds := 3 }
    keyboard := { debounce := 3, delayMs := 500, periodMs := 100 }
    punch := { leader := 6, trailer := 6 }
    motor := { runupMs := 1500, idleS := 20, tone := 1000 } }

/-- The defaults of R86. -/
def Modes.powerOn : Modes :=
  { answering := false, answerOnEstablish := true, forcesOnline := true, divert := false,
    station := .online, source := .off, farOnly := false }

def RxStats.zero : RxStats :=
  { good := 0, stopError := 0, collided := 0, falseStart := 0, peakEarly := 0, peakLate := 0, warning := 0 }

/-- R31, R44, R59, R63. -/
def Receiver.powerOn : Receiver :=
  { state := .hunting, linePlane := .letters, stats := .zero, run := none, ahead := 0 }

/-- R89, R107. -/
def Transmitter.powerOn : Transmitter :=
  { state := .idle, echo := none, streamPlane := .letters, halt := none, sequencer := .empty,
    breakPending := false, sent := 0, dropped := 0 }

/-- R67, R68. -/
def Controller.powerOn : Controller :=
  { state := .free, originate := false, originateTimer := .stopped, confirmTimer := none,
    clearTimer := none, callKind := none, markerOpen := false }

/-- R125; the contacts' conditions are DESIGN CHOICE open (log 1). -/
def Keyboard.powerOn : Keyboard :=
  { states := Vector.replicate 64 .up, locked := false, repeating := none,
    feeding := Vector.replicate 64 false, barred := Vector.replicate 64 false,
    contacts := Vector.replicate 64 false, lastRead := none }

/-- R149, with the halt reasons that the sense inputs give (R178). -/
def Printer.powerOn (paperOut coverOpen : Bool) : Printer :=
  { held := none, wheel := .idle, wheelAt := 0, hammer := none, carriage := .idle, paper := none,
    newline := false, column := 1, unsure := true,
    halts := { paper := paperOut, cover := coverOpen, carriage := false, host := false },
    waitingWidth := none, strikes := 0 }

/-- R166, with the halt reasons that the sense inputs give (R178). -/
def Punch.powerOn (tapeOut coverOpen : Bool) : Punch :=
  { held := none, work := none, feeds := 0, runCount := 0, eraseDepth := 0,
    halts := { tapeOut := tapeOut, cover := coverOpen, host := false }, punched := 0, erases := 0 }

/-- R182. -/
def Motor.powerOn : Motor := { state := .stopped, runupEnds := none, idleEnds := none }

/-- An input at the release of RESET: polarity asserted-high, debounced state the raw state, reported
state not asserted, stability timing begun (R178, R182). -/
def SenseInput.powerOn (pin : Bool) : SenseInput :=
  { pin := pin, assertedLow := false, debounced := pin, reported := false, since := 0 }

/-- R180. -/
def Bell.powerOn : Bell := { count := 0, phase := .quiet }

/-- R205; the speed as RATE gives (R183). -/
def Link.powerOn (fast : Bool) : Link :=
  { fast := fast, buffer := .empty, resync := false, gapFrom := none, waiting := none, out := none }

/-- R205: disabled, priority 2, not pending, count 0, data 0. -/
def EventRecord.powerOn : EventRecord :=
  { enabled := false, priority := 2, pending := false, count := 0, data := 0 }

/-- The machine right after reset. Every value is the spec's but the levels of the pins, LINE_IN at space,
the sense pins and RATE low, the contacts open (DESIGN CHOICE, log 1), and the model's own `ticket`
(log 6). -/
def State.reset : State :=
  { now := 0
    ticket := 0
    lineIn := false
    store := .powerOn
    tables := .powerOn
    setup := .powerOn
    modes := .powerOn
    receiver := .powerOn
    transmitter := .powerOn
    controller := .powerOn
    keyboard := .powerOn
    printer := .powerOn false false
    punch := .powerOn false false
    motor := .powerOn
    sense := Vector.replicate 6 (.powerOn false)
    bell := .powerOn
    link := .powerOn false
    events := Vector.replicate 16 .powerOn
    pending := [] }

end Sys2Proof.Machine
end

