-- ==== Sys2Proof/Machine/Bytes.lean ====
section
/-! DEFINITION. Bytes, fields and bounded counts: the field convention of R189, clamping (R42, R124, R126,
R150, R181) and saturating counts (00 Conventions, "Counts"). -/

namespace Sys2Proof.Machine

/-- A one-byte field (R189). -/
def byte (n : Nat) : Byte := BitVec.ofNat 8 n

/-- A two-byte field, most significant byte first (R189). -/
def be2 (n : Nat) : List Byte := [byte (n / 256), byte n]

/-- A four-byte field, most significant byte first (R189). -/
def be4 (n : Nat) : List Byte := [byte (n / 16777216), byte (n / 65536), byte (n / 256), byte n]

/-- The number two bytes carry (R189). -/
def num2 (hi lo : Byte) : Nat := hi.toNat * 256 + lo.toNat

/-- A signed four-byte field, two's complement (R189, R197). -/
def signed4 (i : Int) : List Byte := be4 (BitVec.ofInt 32 i).toNat

/-- A flag as a field: 0 or 1. -/
def flagByte (b : Bool) : Byte := if b then 1 else 0

/-- A set of numbered things: thing k has the value 2 to the power k (R189). -/
def setByte : List Bool → Nat
  | [] => 0
  | b :: bs => (if b then 1 else 0) + 2 * setByte bs

/-- A saturating addition. -/
def satAdd (limit a b : Nat) : Nat := min limit (a + b)

/-- One more on a 16-bit saturating count. -/
def bump (n : Nat) : Nat := satAdd 65535 n 1

/-- A value outside its range is replaced by the nearer end of the range. -/
def clampNat (lo hi n : Nat) : Nat := max lo (min hi n)

/-- Quotient rounded to the nearest whole percent of the unit length, a half rounded up (R51). -/
def percentOf (d unitLength : Nat) : Nat := (d * 100 + unitLength / 2) / unitLength

end Sys2Proof.Machine
end

