-- ==== Sys2Proof/Machine/Timing.lean ====
section
/-! DEFINITION. Intervals in microseconds, and the clock's moves. -/

namespace Sys2Proof.Machine

/-- Milliseconds in the 1 us time base. -/
def ms (n : Nat) : Nat := n * 1000

/-- Seconds in the 1 us time base. -/
def seconds (n : Nat) : Nat := n * 1000000

/-- The orientation offset floor(U * O / 100) (R48). -/
def LineSetup.offset (l : LineSetup) : Nat := l.unitLength * l.orientation / 100

/-- The sample instant s_k of a character whose start edge fell at t0 (R48). -/
def LineSetup.sampleAt (l : LineSetup) (t0 k : Nat) : Nat := t0 + k * l.unitLength + l.offset

/-- The stop element S = (U * F) div 100 (R60). -/
def LineSetup.stopLength (l : LineSetup) : Nat := l.unitLength * l.stopFactor / 100

/-- What a character begun now takes of the line parameters (R42, R60). -/
def LineSetup.keying (l : LineSetup) : Keying :=
  { unit := l.unitLength, stop := l.stopLength, order := l.order }

/-- The end of a character begun at T: T + 6U + S (R60). -/
def Keying.characterEnd (k : Keying) (start : Nat) : Nat := start + 6 * k.unit + k.stop

/-- The instant at which a start-edge claim made at T is withdrawn: T + floor(U/5) (R46). -/
def LineSetup.claimEnd (l : LineSetup) (start : Nat) : Nat := start + l.unitLength / 5

/-- The break threshold Bu * U (R64). -/
def LineSetup.breakThreshold (l : LineSetup) : Nat := l.breakUnits * l.unitLength

/-- The clear threshold C * 1,000 (R65). -/
def LineSetup.clearThreshold (l : LineSetup) : Nat := ms l.clearMs

/-- One step of the type wheel (R129). -/
def wheelStepTime : Nat := 750
/-- A hammer strike (R128). -/
def strikeTime : Nat := 10000
/-- A carriage advance (R128). -/
def advanceTime : Nat := 6000
/-- A line feed (R133). -/
def lineFeedTime : Nat := 35000
/-- A carriage return from column c (R131). -/
def returnTime (column : Nat) : Nat := 20000 + 1500 * (column - 1)

/-- A step of the punch mechanism (R155). -/
def PunchStep.time : PunchStep → Nat
  | .stroke _ _ => 20000
  | .feed _ => 25000
  | .back => 25000

/-- The stability time of a sense input (R175). -/
def stabilityTime : Nat := 10000
/-- A ring of the bell (R180). -/
def ringTime : Nat := 150000
/-- The gap after a ring (R180). -/
def gapTime : Nat := 100000

/-- The longest gap between two bytes that is accepted (R184). -/
def byteGapLimit : Nat := 20000

/-- The gap after a byte has exceeded 20,000 us at the first whole microsecond past it (R184; log 13). -/
def byteGapTime : Nat := byteGapLimit + 1

/-- The speed of the host link in bits a second (R183). -/
def linkRate (fast : Bool) : Nat := if fast then 38400 else 9600

/-- How long n bytes of the host link last, ten bit times each, in whole microseconds (R183; log 13). -/
def linkTime (fast : Bool) (n : Nat) : Nat := n * 10 * seconds 1 / linkRate fast

/-- Time has passed up to the instant t; the clock never runs back (log 2). -/
def State.upTo (s : State) (t : Nat) : State := s.setNow (max s.now t)

/-- One microsecond passes. -/
def State.tick (s : State) : State := s.setNow (s.now + 1)

end Sys2Proof.Machine
end

