-- ==== Sys2Proof/Machine/EventOps.lean ====
section
/-! DEFINITION. The event table (R198), the sense states that SENSE_CHANGE reports (R177), and the numbers
of events, sense inputs and causes. -/

namespace Sys2Proof.Machine

/-! ## Numbers of the events (R198), their data values, and the sense inputs (R175) -/

abbrev evCall : Fin 16 := 0
abbrev evEstablished : Fin 16 := 1
abbrev evCleared : Fin 16 := 2
abbrev evBreakReceived : Fin 16 := 3
abbrev evWruAnswered : Fin 16 := 4
abbrev evSendEmpty : Fin 16 := 5
abbrev evSendHalted : Fin 16 := 6
abbrev evLapped : Fin 16 := 7
abbrev evKeyboardLocked : Fin 16 := 8
abbrev evPaperOut : Fin 16 := 9
abbrev evTape : Fin 16 := 10
abbrev evDiverted : Fin 16 := 11
abbrev evMechFault : Fin 16 := 12
abbrev evSenseChange : Fin 16 := 13
abbrev evDistortion : Fin 16 := 14
abbrev evLinkError : Fin 16 := 15

abbrev causeFar : Byte := 0
abbrev causeOwn : Byte := 1
abbrev causeAbandoned : Byte := 2
abbrev tapeLow : Byte := 0
abbrev tapeOut : Byte := 1
abbrev faultMotor : Byte := 0
abbrev faultCarriage : Byte := 1
abbrev errorFrame : Byte := 0
abbrev errorOverrun : Byte := 1

abbrev inPaperOut : Fin 6 := 0
abbrev inTapeLow : Fin 6 := 1
abbrev inTapeOut : Fin 6 := 2
abbrev inMotorReady : Fin 6 := 3
abbrev inCarriageHome : Fin 6 := 4
abbrev inCoverOpen : Fin 6 := 5

/-! ## Occurrences -/

/-- An occurrence on one event record: pending, one more on the count saturating at 255, and the data when
the event carries any (R198). -/
def EventRecord.occur (r : EventRecord) (data : Option Byte) : EventRecord :=
  { r with pending := true, count := satAdd 255 r.count 1, data := data.getD r.data }

/-- The record of an event no longer pending (R198, R201). -/
def EventRecord.cleared (r : EventRecord) : EventRecord := { r with pending := false, count := 0 }

/-- An occurrence of event e (R198). -/
def raise (e : Fin 16) (data : Option Byte) (s : State) : State :=
  s.setEvents (s.events.set e (s.events[e].occur data))

/-- Event e is cleared (R201). -/
def clearEvent (e : Fin 16) (s : State) : State :=
  s.setEvents (s.events.set e s.events[e].cleared)

/-- The events that carry data (R198). -/
def eventHasData (e : Fin 16) : Bool :=
  [evCleared, evSendHalted, evLapped, evTape, evMechFault, evSenseChange, evLinkError].contains e

/-! ## Sense states -/

/-- The raw state of an input: asserted under its polarity (R175). -/
def SenseInput.raw (i : SenseInput) : Bool := i.pin != i.assertedLow

/-- The debounced state of input k (R175). -/
def asserted (s : State) (k : Fin 6) : Bool := s.sense[k].debounced

/-- The debounced states differ from the reported state (R177). -/
def senseDiffers (s : State) : Bool := s.sense.toList.any fun i => i.debounced != i.reported

/-- SENSE_CHANGE is raised when the debounced states differ from the reported state (R177). -/
def raiseSenseChange (s : State) : State :=
  if senseDiffers s then raise evSenseChange none s else s

/-- The debounced states as a set (R198). -/
def senseSet (s : State) : Byte := byte (setByte (s.sense.toList.map SenseInput.debounced))

/-- The host has been told the debounced states (R177). -/
def markReported (s : State) : State :=
  s.setSense (s.sense.map fun i => { i with reported := i.debounced })

end Sys2Proof.Machine
end

