-- ==== Sys2Proof/Machine/StoreOps.lean ====
section
/-! DEFINITION. The character store (R1 to R26): cells, rings, cursors, writes, takes, returns,
attachment, moves and the ring reset. -/

namespace Sys2Proof.Machine

/-! ## Cells (R1): a list by rising cell number; an unlisted cell holds nothing -/

/-- The entry a cell holds; an unlisted cell holds nothing (R2, R26). -/
def readCell (cells : List (Nat × Entry)) (a : Nat) : Option Entry :=
  match cells with
  | [] => none
  | (b, e) :: rest => if b = a then some e else readCell rest a

/-- An entry is put into a cell, replacing what the cell held (R1). -/
def writeCell (a : Nat) (e : Entry) (cells : List (Nat × Entry)) : List (Nat × Entry) :=
  match cells with
  | [] => [(a, e)]
  | (b, f) :: rest =>
    if a < b then (a, e) :: (b, f) :: rest
    else if a = b then (a, e) :: rest
    else (b, f) :: writeCell a e rest

/-- The number of cells (R1). -/
def cellCount : Nat := 2048

/-- Cell numbers strictly rising, each at least `low` and below 2,048. -/
def Memory.risingFrom (low : Nat) : List (Nat × Entry) → Bool
  | [] => true
  | (a, _) :: rest => decide (low ≤ a) && decide (a < cellCount) && Memory.risingFrom (a + 1) rest

/-- The canonical form of the cells. -/
def Memory.wf (cells : List (Nat × Entry)) : Bool := Memory.risingFrom 0 cells

/-! ## Rings and cursors by name -/

def Rings.get (rs : Rings) : RingId → Ring
  | .traffic => rs.traffic
  | .send => rs.send
  | .loc => rs.loc

def Rings.set (rs : Rings) (i : RingId) (r : Ring) : Rings :=
  match i with
  | .traffic => { rs with traffic := r }
  | .send => { rs with send := r }
  | .loc => { rs with loc := r }

def Cursors.get (cs : Cursors) : CursorId → Cursor
  | .printP => cs.printP
  | .printA => cs.printA
  | .punchT => cs.punchT
  | .punchL => cs.punchL
  | .hostT => cs.hostT
  | .hostL => cs.hostL
  | .xmit => cs.xmit

def Cursors.set (cs : Cursors) (i : CursorId) (c : Cursor) : Cursors :=
  match i with
  | .printP => { cs with printP := c }
  | .printA => { cs with printA := c }
  | .punchT => { cs with punchT := c }
  | .punchL => { cs with punchL := c }
  | .hostT => { cs with hostT := c }
  | .hostL => { cs with hostL := c }
  | .xmit => { cs with xmit := c }

/-- The seven cursors in the order of their numbers (R6). -/
def allCursors : List CursorId := [.printP, .printA, .punchT, .punchL, .hostT, .hostL, .xmit]

/-- A cursor's number (R6). -/
def CursorId.number : CursorId → Nat
  | .printP => 0
  | .printA => 1
  | .punchT => 2
  | .punchL => 3
  | .hostT => 4
  | .hostL => 5
  | .xmit => 6

/-- The ring a cursor belongs to (R6). -/
def CursorId.ring : CursorId → RingId
  | .printP => .traffic
  | .printA => .loc
  | .punchT => .traffic
  | .punchL => .loc
  | .hostT => .traffic
  | .hostL => .loc
  | .xmit => .send

def State.ring (s : State) (i : RingId) : Ring := s.store.rings.get i

def State.cursor (s : State) (c : CursorId) : Cursor := s.store.cursors.get c

def State.setRing (s : State) (i : RingId) (r : Ring) : State :=
  s.setStore { s.store with rings := s.store.rings.set i r }

def State.setCursor (s : State) (c : CursorId) (v : Cursor) : State :=
  s.setStore { s.store with cursors := s.store.cursors.set c v }

/-- The unread count W - R, on the cursor's own ring (R6). -/
def unread (s : State) (c : CursorId) : Nat := ((s.ring c.ring).w - (s.cursor c).r).toNat

/-- How many entries a ring retains (R5). -/
def Ring.retained (r : Ring) : Nat := if r.filled then r.len else r.w.toNat

/-- The cell that lies j places before the write place, counted round the ring (R4). -/
def Ring.cellBack (r : Ring) (j : Nat) : Nat := r.base + (r.place - r.base + r.len - j) % r.len

/-- The retained entry of sequence W - j (R4, R5, R6). -/
def entryBack (s : State) (i : RingId) (j : Nat) : Option Entry :=
  let r := s.ring i
  if j = 0 ∨ r.retained < j then none else readCell s.store.cells (r.cellBack j)

/-! ## Writing -/

/-- A ring after one write: W one more, the write place one on, the filled indication set by the write
that brings the count to the length (R4, R5). -/
def Ring.advance (r : Ring) : Ring :=
  { r with
    w := r.w + 1
    place := if r.place + 1 = r.base + r.len then r.base else r.place + 1
    filled := r.filled || r.w.toNat + 1 == r.len }

/-- The entry goes into the ring's write place and W increases by one (R4). -/
def appendEntry (i : RingId) (e : Entry) (s : State) : State :=
  s.setStore
    { s.store with
      cells := writeCell (s.ring i).place e s.store.cells
      rings := s.store.rings.set i (s.ring i).advance }

/-- A cursor is lapped: R becomes W - length, the lost count grows by n, LAPPED is raised with the cursor's
number (R9, R11, R12). -/
def lapCursor (c : CursorId) (n : Nat) (s : State) : State :=
  let r := s.ring c.ring
  raise evLapped (some (byte c.number))
    (s.setCursor c
      { s.cursor c with
        r := r.w - BitVec.ofNat 32 r.len
        lost := satAdd 65535 (s.cursor c).lost n })

/-- After a TRAFFIC write an attached cursor over the length is moved, one entry lost (R11). -/
def lapIfOver (c : CursorId) (s : State) : State :=
  if (s.cursor c).attached && decide ((s.ring c.ring).len < unread s c) then lapCursor c 1 s else s

/-- A lapping write into TRAFFIC; its attached cursors are examined in ascending number (R11). -/
def writeTraffic (e : Entry) (s : State) : State :=
  lapIfOver .hostT (lapIfOver .punchT (lapIfOver .printP (appendEntry .traffic e s)))

/-- The unread count that a cursor holds against its ring's free space: none while detached (R8, R13). -/
def holding (s : State) (c : CursorId) : Nat := if (s.cursor c).attached then unread s c else 0

/-- The largest unread count among the attached cursors of a ring (R13). -/
def maxUnread (s : State) : RingId → Nat
  | .traffic => max (holding s .printP) (max (holding s .punchT) (holding s .hostT))
  | .send => holding s .xmit
  | .loc => max (holding s .printA) (max (holding s .punchL) (holding s .hostL))

/-- The free space of a ring (R13). -/
def freeSpace (s : State) (i : RingId) : Nat := (s.ring i).len - maxUnread s i

/-! ## The keyboard's destination and lock (R117 to R119) -/

/-- The ring that keystrokes go into (R117, R120). -/
def destination (s : State) : RingId :=
  match s.modes.station with
  | .online => .send
  | .localMode => .loc

/-- The lock is tested against the destination's free space: it clears at 8 cells or more (R119). -/
def testLock (s : State) : State :=
  if s.keyboard.locked && decide (8 ≤ freeSpace s (destination s)) then
    s.setKeyboard { s.keyboard with locked := false }
  else s

/-- The test made at an event of ring i, when i is the destination (R119). -/
def testLockOn (i : RingId) (s : State) : State := if destination s = i then testLock s else s

/-! ## Taking, returning, attaching, moving -/

/-- The cursor's R moves forward by n. -/
def advanceCursor (c : CursorId) (n : Nat) (s : State) : State :=
  s.setCursor c { s.cursor c with r := (s.cursor c).r + BitVec.ofNat 32 n }

/-- A take delivers the entry of sequence R and advances R by one; an empty cursor delivers nothing
(R17). A take is one of the events at which the lock is tested (R119). -/
def takeEntry (c : CursorId) (s : State) : Option (Entry × State) :=
  match entryBack s c.ring (unread s c) with
  | none => none
  | some e => some (e, testLockOn c.ring (advanceCursor c 1 s))

/-- A held entry not yet begun is returned to its cursor: R goes back by one while the entry is retained;
otherwise it is counted lost and LAPPED is raised; a MOVE READER made meanwhile stands (R18). -/
def returnEntry (h : Held) (s : State) : State :=
  if h.moved then s
  else if unread s h.cursor + 1 ≤ (s.ring h.cursor.ring).len then
    s.setCursor h.cursor { s.cursor h.cursor with r := (s.cursor h.cursor).r - 1 }
  else
    raise evLapped (some (byte h.cursor.number))
      (s.setCursor h.cursor
        { s.cursor h.cursor with lost := satAdd 65535 (s.cursor h.cursor).lost 1 })

/-- A cursor is detached and frozen (R8). -/
def detachCursor (c : CursorId) (s : State) : State :=
  s.setCursor c { s.cursor c with attached := false }

/-- A cursor is attached: one more than a length behind is first moved to W - length, the difference
counted lost (R9). An attached cursor is left as it is. -/
def attachCursor (c : CursorId) (s : State) : State :=
  if (s.cursor c).attached then s
  else
    let len := (s.ring c.ring).len
    let s' := if len < unread s c then lapCursor c (unread s c - len) s else s
    s'.setCursor c { s'.cursor c with attached := true }

/-- The unread count after a move by delta, clamped into the retained range: R not below the oldest
retained sequence and not above W (R21). -/
def movedUnread (s : State) (c : CursorId) (delta : Int) : Nat :=
  min (s.ring c.ring).retained ((unread s c : Int) - delta).toNat

/-- Sets R so that the unread count is n. -/
def setUnread (c : CursorId) (n : Nat) (s : State) : State :=
  s.setCursor c { s.cursor c with r := (s.ring c.ring).w - BitVec.ofNat 32 n }

/-! ## Ring reset (R25) -/

def Cursor.rewound (c : Cursor) : Cursor := { c with r := 0, lost := 0 }

def Cursors.rewound (cs : Cursors) : Cursors :=
  { printP := cs.printP.rewound, printA := cs.printA.rewound, punchT := cs.punchT.rewound,
    punchL := cs.punchL.rewound, hostT := cs.hostT.rewound, hostL := cs.hostL.rewound,
    xmit := cs.xmit.rewound }

def Ring.rewound (r : Ring) : Ring := Ring.fresh r.base r.len

/-- All three rings reset: W, write place, filled indication, cells, R and lost count of every cursor and
the writer planes; attached flags are kept (R25). -/
def Store.rewound (st : Store) : Store :=
  { cells := []
    rings := { traffic := st.rings.traffic.rewound, send := st.rings.send.rewound, loc := st.rings.loc.rewound }
    cursors := st.cursors.rewound
    sendPlane := .letters
    locPlane := .letters }

/-- A ring reset, which also clears the marker-open flag and is an event at which the lock is tested
(R25, R119). -/
def resetRings (s : State) : State :=
  testLock ((s.setStore s.store.rewound).setController { s.controller with markerOpen := false })

end Sys2Proof.Machine
end

