-- ==== Sys2Proof/Machine/PlaneOps.lean ====
section
/-! DEFINITION. The code table and the shift planes (R27 to R37): lookups, the plane after a code, shift
codes, and the writing of text into SEND and LOCAL. -/

namespace Sys2Proof.Machine

/-- The index of the entry of a plane and code (R27). -/
def codeIndex (p : Plane) (c : Code) : Fin 64 :=
  match p with
  | .letters => ⟨c.toNat, by omega⟩
  | .figures => ⟨32 + c.toNat, by omega⟩

/-- The plane that an index of the table belongs to (R27). -/
def indexPlane (i : Fin 64) : Plane := if i.val < 32 then .letters else .figures

/-- The code that an index of the table belongs to (R27). -/
def indexCode (i : Fin 64) : Code := BitVec.ofNat 5 i.val

/-- The table's entry for a plane and code (R27). -/
def lookup (t : Tables) (p : Plane) (c : Code) : CodeEntry := t.codes[codeIndex p c]

/-- Plane-neutral: both entries identical in function, glyph and host character (R29). -/
def neutral (t : Tables) (c : Code) : Bool := lookup t .letters c == lookup t .figures c

/-- The function of a plane's shift code (R29). -/
def Plane.shiftFn : Plane → CodeFn
  | .letters => .ltrs
  | .figures => .figs

/-- All codes in ascending order. -/
def allCodes : List Code := (List.range 32).map (BitVec.ofNat 5)

/-- The shift code of a plane: the lowest code that has its function in both planes (R29). -/
def shiftCode (t : Tables) (p : Plane) : Option Code :=
  allCodes.find? fun c => (lookup t .letters c).fn == p.shiftFn && (lookup t .figures c).fn == p.shiftFn

/-- The plane after a code (R30). -/
def planeAfter (t : Tables) (unshift : Bool) (p : Plane) (c : Code) : Plane :=
  match (lookup t p c).fn with
  | .ltrs => .letters
  | .figs => .figures
  | .space => if unshift then .letters else p
  | _ => p

/-- The plane after a code under the machine's table and unshift-on-space (R30). -/
def State.planeAfter (s : State) (p : Plane) (c : Code) : Plane :=
  Machine.planeAfter s.tables s.setup.line.unshift p c

/-- The writer plane of SEND or LOCAL (R33). TRAFFIC has none; its value here is never used. -/
def writerPlane (s : State) : RingId → Plane
  | .traffic => .letters
  | .send => s.store.sendPlane
  | .loc => s.store.locPlane

def setWriterPlane (i : RingId) (p : Plane) (s : State) : State :=
  match i with
  | .traffic => s
  | .send => s.setStore { s.store with sendPlane := p }
  | .loc => s.setStore { s.store with locPlane := p }

/-- What one character writes against the writer plane p when it needs `need`: its code with the plane of
its entry, preceded by the shift code where R35 inserts one. -/
def textFor (s : State) (p : Plane) (need : Option Plane) (c : Code) : List (Code × Plane) :=
  match need with
  | none => [(c, s.planeAfter p c)]
  | some q =>
    if p = q ∨ neutral s.tables c then [(c, s.planeAfter p c)]
    else
      match shiftCode s.tables q with
      | none => [(c, s.planeAfter q c)]
      | some sc => if sc = c then [(c, s.planeAfter p c)] else [(sc, q), (c, s.planeAfter q c)]

/-- The origin an entry of a text ring carries: LOCAL's writers are told apart, SEND's are not (R2). -/
def textOrigin (i : RingId) (o : Origin) : Option Origin :=
  match i with
  | .loc => some o
  | _ => none

/-- CHAR entries are appended in order and the writer plane follows them (R33, R35). -/
def putText (i : RingId) (o : Origin) : List (Code × Plane) → State → State
  | [], s => s
  | (c, p) :: rest, s =>
    putText i o rest (setWriterPlane i p (appendEntry i (.char c p (textOrigin i o) none) s))

/-- Codes written with no plane needed, each against the plane the one before it left (R34, R121). -/
def plainText (s : State) (p : Plane) : List Code → List (Code × Plane)
  | [] => []
  | c :: rest => (c, s.planeAfter p c) :: plainText s (s.planeAfter p c) rest

/-- One character of a keystroke or a host write: written whole when the free space takes all its entries,
otherwise not at all (R13, R14, R15). -/
def putChar (i : RingId) (o : Origin) (need : Option Plane) (c : Code) (s : State) : Option State :=
  let xs := textFor s (writerPlane s i) need c
  if xs.length ≤ freeSpace s i then some (putText i o xs s) else none

/-! ## Host writes (R15, R36, R37) -/

/-- The first table entry whose host character is h, LETTERS before FIGURES; none for 0 (R36). -/
def hostCharacter (t : Tables) (h : Byte) : Option (Plane × Code) :=
  if h = 0 then none
  else ((List.finRange 64).find? fun i => t.codes[i].host == h).map fun i => (indexPlane i, indexCode i)

/-- The outcome of a host write: characters accepted and skipped, whether it reached its end, and the
state. -/
structure WriteResult where
  accepted : Nat
  skipped : Nat
  whole : Bool
  state : State

/-- WRITE TEXT from the first character still to be checked (R15, R36). -/
def writeHostText (i : RingId) : List Byte → Nat → Nat → State → WriteResult
  | [], a, k, s => ⟨a, k, true, s⟩
  | h :: rest, a, k, s =>
    match hostCharacter s.tables h with
    | none => writeHostText i rest a (k + 1) s
    | some (p, c) =>
      match putChar i .host (some p) c s with
      | none => ⟨a, k, false, s⟩
      | some s' => writeHostText i rest (a + 1) k s'

/-- The plane request of a WRITE CODES byte: 0 none, 1 LETTERS, 2 FIGURES (R37). -/
def codeRequest (b : Byte) : Option Plane :=
  if b.toNat / 32 = 1 then some .letters else if b.toNat / 32 = 2 then some .figures else none

/-- The code of a WRITE CODES byte (R37). -/
def codeOfByte (b : Byte) : Code := BitVec.ofNat 5 b.toNat

/-- WRITE CODES from the first byte still to be checked (R15, R37). -/
def writeHostCodes (i : RingId) : List Byte → Nat → State → WriteResult
  | [], a, s => ⟨a, 0, true, s⟩
  | b :: rest, a, s =>
    match putChar i .host (codeRequest b) (codeOfByte b) s with
    | none => ⟨a, 0, false, s⟩
    | some s' => writeHostCodes i rest (a + 1) s'

end Sys2Proof.Machine
end

