-- ==== Sys2Proof/Machine/Flags.lean ====
section
/-! DEFINITION. Condition sets, halted and busy conditions, and the values under which the host is told
states and reasons (R67, R89, R101, R148, R165, R167, R195, R206). -/

namespace Sys2Proof.Machine

/-! ## Conditions -/

/-- The printer is halted while a reason is set (R143). -/
def PrinterHalts.any (h : PrinterHalts) : Bool := h.paper || h.cover || h.carriage || h.host

/-- The punch is halted while a reason is set (R160). -/
def PunchHalts.any (h : PunchHalts) : Bool := h.tapeOut || h.cover || h.host

def motorRunning (s : State) : Bool := s.motor.state == .running

/-- WAKING, ESTABLISHED and REFUSING (R67). -/
def LineState.connected : LineState → Bool
  | .waking => true
  | .established => true
  | .refusing => true
  | _ => false

/-- The line states in which the spacing-run counter runs (R63). -/
def LineState.counts : LineState → Bool
  | .callPending => true
  | .unanswered => true
  | .waking => true
  | .established => true
  | .refusing => true
  | _ => false

/-- The transmitter is sending a break. -/
def TxState.isBreaking : TxState → Bool
  | .breaking _ => true
  | _ => false

/-- The transmitter has a character in flight. -/
def TxState.isSending : TxState → Bool
  | .sending _ _ _ => true
  | _ => false

/-- The receiver is active (R44, R56). -/
def receiverActive (s : State) : Bool :=
  s.controller.state.connected && !s.transmitter.state.isBreaking

/-- The spacing-run counter runs (R63, R66). -/
def counterRuns (s : State) : Bool :=
  s.controller.state.counts && !s.transmitter.state.isBreaking

/-- The value of the spacing-run counter, saturating at 12,000,000 (R63). -/
def spacingCount (s : State) : Nat :=
  match s.receiver.run with
  | none => 0
  | some r => min 12000000 (s.now - r.start)

/-- The print cursor attached by the station mode (R7, R134). -/
def printCursor (s : State) : CursorId :=
  match s.modes.station with
  | .online => .printP
  | .localMode => .printA

/-- The punch cursor attached by the punch source (R7, R151). -/
def punchCursor (s : State) : Option CursorId :=
  match s.modes.source with
  | .off => none
  | .traffic => some .punchT
  | .loc => some .punchL

/-- The print cursor has unread entries. -/
def printUnread (s : State) : Bool := decide (0 < unread s (printCursor s))

/-- The punch cursor, if one is attached, has unread entries. -/
def punchUnread (s : State) : Bool :=
  match punchCursor s with
  | none => false
  | some c => decide (0 < unread s c)

/-- A key taken as pressed and not yet released: DOWN, or being read open without its release event
(R109, R110; log 10). -/
def KeyState.pressed : KeyState → Bool
  | .down => true
  | .releasing _ => true
  | _ => false

/-- A key of the kind CODE (R40). -/
def KeyEntry.isCode : KeyEntry → Bool
  | .code _ _ => true
  | _ => false

/-- A start demand stands; a FEED key makes it while its entry is DOWN, and not while it is RELEASING (R168). -/
def startDemand (s : State) : Bool :=
  s.controller.state == .waking
  || (!s.printer.halts.any && (s.printer.held.isSome || printUnread s))
  || (!s.punch.halts.any && (decide (0 < s.punch.feeds) || s.punch.held.isSome || punchUnread s))
  || (List.finRange 64).any fun k => s.keyboard.states[k] == .down && s.tables.keys[k] == .feed

/-! ## Values told to the host -/

def LineState.value : LineState → Byte
  | .free => 0
  | .originating => 1
  | .callPending => 2
  | .unanswered => 3
  | .waking => 4
  | .established => 5
  | .refusing => 6
  | .clearing => 7

def TxState.value : TxState → Byte
  | .idle => 0
  | .sending _ _ _ => 1
  | .breaking _ => 2
  | .clearSpacing => 3

def HaltReason.value : HaltReason → Byte
  | .collision => 1
  | .breakReceived => 2
  | .host => 3

/-- The halt reason as reported: 0 for a clear flag (R101). -/
def haltValue : Option HaltReason → Byte
  | none => 0
  | some r => r.value

def MotorState.value : MotorState → Byte
  | .stopped => 0
  | .runup => 1
  | .running => 2
  | .fault => 3

def PrinterHalts.value (h : PrinterHalts) : Byte := byte (setByte [h.paper, h.cover, h.carriage, h.host])

def PunchHalts.value (h : PunchHalts) : Byte := byte (setByte [h.tapeOut, h.cover, h.host])

/-- A mechanism of the printer is busy (R128). -/
def Printer.busy (p : Printer) : Bool :=
  p.wheel != .idle || p.hammer.isSome || p.carriage != .idle || p.paper.isSome

/-- The printer state of STATUS: 2 HALTED, 3 WAITING, 1 BUSY, 0 IDLE (R148). -/
def printerState (s : State) : Byte :=
  if s.printer.halts.any then 2
  else if !motorRunning s && (s.printer.held.isSome || printUnread s) then 3
  else if s.printer.held.isSome || s.printer.busy then 1
  else 0

/-- The punch state of STATUS: 2 HALTED, 3 WAITING, 1 BUSY, 0 IDLE (R165). -/
def punchState (s : State) : Byte :=
  if s.punch.halts.any then 2
  else if !motorRunning s &&
      (decide (0 < s.punch.feeds) || s.punch.held.isSome || s.punch.work.isSome || punchUnread s) then 3
  else if s.punch.work.isSome || s.punch.held.isSome || decide (0 < s.punch.feeds) then 1
  else 0

def StationMode.value : StationMode → Byte
  | .online => 0
  | .localMode => 1

def PunchSource.value : PunchSource → Byte
  | .off => 0
  | .traffic => 1
  | .loc => 2

/-- The reply statuses (R206). -/
abbrev statusOk : Byte := 0
abbrev statusClamped : Byte := 1
abbrev statusPartial : Byte := 2
abbrev statusState : Byte := 3
abbrev statusLayout : Byte := 4
abbrev statusLength : Byte := 5
abbrev statusUnknown : Byte := 6
abbrev statusRange : Byte := 7

end Sys2Proof.Machine
end

