-- ==== Sys2Proof/Machine/Ops.lean ====
section
/-! DEFINITION. The operations that several commands share: requests to the transmitter, the bell and the
idle countdown; halts and returns of the engines; changes of mode and source; the connection controller's
entries; motor control's entries. -/

namespace Sys2Proof.Machine

/-! ## Bell, idle countdown, transmitter requests -/

/-- n rings are asked for; the pending ring count saturates at 3 (R179). -/
def ringBell (n : Nat) (s : State) : State :=
  s.setBell { s.bell with count := satAdd 3 s.bell.count n }

/-- A ring begins: one off the count, the half-period of the tone now in force (R180). -/
def startRing (s : State) : State :=
  s.setBell { count := s.bell.count - 1, phase := .ringing s.now (500000 / s.setup.motor.tone) }

/-- RING_BEGIN: in QUIET with a count of 1 or more (R180). -/
def doRingBegin (s : State) : Option State :=
  if s.bell.phase == .quiet && decide (1 ≤ s.bell.count) then some (startRing s) else none

/-- A ring that has been asked for in QUIET has begun (R180). -/
def ringAtOnce (s : State) : State := (doRingBegin s).getD s

/-- A load of the idle countdown: only while RUNNING; idle time 0 stops it (R173). -/
def loadIdle (s : State) : State :=
  if motorRunning s then
    s.setMotor
      { s.motor with
        idleEnds := if s.setup.motor.idleS = 0 then none else some (s.now + seconds s.setup.motor.idleS) }
  else s

/-- The halt flag is set with a reason, raising SEND_HALTED; a flag already set keeps its reason and
raises nothing (R101). -/
def haltSending (why : HaltReason) (s : State) : State :=
  match s.transmitter.halt with
  | some _ => s
  | none =>
    raise evSendHalted (some why.value)
      (s.setTransmitter { s.transmitter with halt := some why })

/-- The fate of an answer-back request: 0 HELD, 1 DROPPED, 2 LAPSED (R95, R194). -/
def requestFate (s : State) : Nat :=
  if s.tables.answerBack = [] then 2
  else if s.transmitter.sequencer = .empty then 0
  else 1

/-- An answer-back request with its WRU mark: it lapses, is held, or is dropped and counted (R95). -/
def requestAnswerBack (wru : Bool) (s : State) : State :=
  match requestFate s with
  | 0 => s.setTransmitter { s.transmitter with sequencer := .request wru }
  | 1 => s.setTransmitter { s.transmitter with dropped := bump s.transmitter.dropped }
  | _ => s

/-- A break request: held when none is pending and no break is being sent, otherwise taken into that
break (R105). -/
def requestBreak (s : State) : State :=
  if s.transmitter.state.isBreaking then s
  else s.setTransmitter { s.transmitter with breakPending := true }

/-! ## Engine halts and the sense inputs that cause them (R143 to R145, R160 to R163) -/

/-- The print engine returns an entry held and not yet begun; its slot is empty (R18, R144, R147). -/
def returnPrinterHeld (s : State) : State :=
  match s.printer.held with
  | none => s
  | some h => (returnEntry h s).setPrinter { s.printer with held := none }

/-- The punch engine returns an entry held and not yet begun; its slot is empty (R18, R151, R161). -/
def returnPunchHeld (s : State) : State :=
  match s.punch.held with
  | none => s
  | some h => (returnEntry h s).setPunch { s.punch with held := none }

/-- A printer halt reason is set; with no reason set before, the printer halts and returns its entry
(R144). -/
def haltPrinter (set : PrinterHalts → PrinterHalts) (s : State) : State :=
  let s := if s.printer.halts.any then s else returnPrinterHeld s
  s.setPrinter { s.printer with halts := set s.printer.halts }

/-- A punch halt reason is set; with no reason set before, the punch halts and returns its entry
(R161). -/
def haltPunch (set : PunchHalts → PunchHalts) (s : State) : State :=
  let s := if s.punch.halts.any then s else returnPunchHeld s
  s.setPunch { s.punch with halts := set s.punch.halts }

/-- The tape the punch makes next does not continue the text before it (R151, R161, R163). -/
def forgetRun (s : State) : State := s.setPunch { s.punch with runCount := 0, eraseDepth := 0 }

/-- The conditions of the paper-out divert (R163). -/
def divertDue (s : State) : Bool :=
  (s.cursor .printP).attached && s.modes.source == .off && s.modes.divert && !asserted s inTapeOut

/-- The paper-out divert: source TRAFFIC, PUNCH-T at PRINT-P's position and attached, run count and
erase depth 0, DIVERTED raised (R163). -/
def divertPunch (s : State) : State :=
  if divertDue s then
    let s := s.setModes { s.modes with source := .traffic }
    let s := s.setCursor .punchT { s.cursor .punchT with r := (s.cursor .printP).r }
    raise evDiverted none (forgetRun (attachCursor .punchT s))
  else s

/-- PAPER_OUT becomes asserted: the PAPER reason, the event, three rings in ESTABLISHED, then the report
to the punch (R145). -/
def paperOutSet (s : State) : State :=
  let s := raise evPaperOut none (haltPrinter (fun h => { h with paper := true }) s)
  divertPunch (if s.controller.state = .established then ringBell 3 s else s)

/-- TAPE_OUT becomes asserted: the TAPE_OUT reason, run count and erase depth 0, TAPE with data OUT
(R161). -/
def tapeOutSet (s : State) : State :=
  raise evTape (some tapeOut) (forgetRun (haltPunch (fun h => { h with tapeOut := true }) s))

/-- COVER_OPEN becomes asserted: the COVER reason at the printer and at the punch (R176). That the printer
halts, and returns its entry, before the punch is the model's choice (log 33). -/
def coverOpenSet (s : State) : State :=
  haltPunch (fun h => { h with cover := true }) (haltPrinter (fun h => { h with cover := true }) s)

/-! ## Changes of station mode and punch source -/

/-- The print cursor of a station mode (R7). -/
def StationMode.cursor : StationMode → CursorId
  | .online => .printP
  | .localMode => .printA

/-- The punch cursor of a source (R7). -/
def PunchSource.cursor : PunchSource → Option CursorId
  | .off => none
  | .traffic => some .punchT
  | .loc => some .punchL

/-- A change of station mode: the printer's return, the exchange of cursors, the new destination, and the
test of the lock against it; the mode in force changes nothing (R10, R120, R147). -/
def changeStation (m : StationMode) (s : State) : State :=
  if s.modes.station = m then s
  else
    let s := attachCursor m.cursor (detachCursor s.modes.station.cursor (returnPrinterHeld s))
    testLock (s.setModes { s.modes with station := m })

/-- A cursor left by a change of source is detached, which is an event of its ring for the lock (R119). -/
def leaveSource (c : Option CursorId) (s : State) : State :=
  match c with
  | none => s
  | some c => testLockOn c.ring (detachCursor c s)

def joinSource (c : Option CursorId) (s : State) : State :=
  match c with
  | none => s
  | some c => attachCursor c s

/-- A change of punch source: the punch's return, the exchange of cursors, run count and erase depth 0;
the source in force changes nothing (R10, R151). -/
def changeSource (src : PunchSource) (s : State) : State :=
  if s.modes.source = src then s
  else
    let s := joinSource src.cursor (leaveSource s.modes.source.cursor (returnPunchHeld s))
    forgetRun (s.setModes { s.modes with source := src })

/-! ## The connection controller (R76 to R84) -/

def setLine (l : LineState) (s : State) : State := s.setController { s.controller with state := l }

/-- The transmitter enters CLEAR_SPACING, the key opens and the clear timer starts (R83). -/
def beginClearSpacing (s : State) : State :=
  (s.setTransmitter { s.transmitter with state := .clearSpacing }).setController
    { s.controller with clearTimer := some (s.now + ms s.setup.line.clearSendMs) }

/-- Pending requests are discarded and a sequence is ended (R84, R98). -/
def dropRequests (s : State) : State :=
  s.setTransmitter { s.transmitter with sequencer := .empty, breakPending := false }

/-- A pending request is discarded; a sequence in progress stays (R83, R98). -/
def Sequencer.withoutRequest : Sequencer → Sequencer
  | .request _ => .empty
  | q => q

/-- Pending requests are discarded; a sequence is ended, after the character in flight where there is one
(R83, R98). -/
def endRequests (s : State) : State :=
  if s.transmitter.state.isSending then
    s.setTransmitter
      { s.transmitter with sequencer := s.transmitter.sequencer.withoutRequest, breakPending := false }
  else dropRequests s

/-- The spacing-run counter stops at 0 (R63). -/
def stopCounter (s : State) : State := s.setReceiver { s.receiver with run := none }

/-- Entry to CLEARING: a character in flight finishes first; a break ends at once (R83). -/
def enterClearing (s : State) : State :=
  let s := stopCounter (endRequests (setLine .clearing s))
  match s.transmitter.state with
  | .idle => beginClearSpacing s
  | .breaking _ => beginClearSpacing s
  | .sending _ _ _ => s
  | .clearSpacing => s

/-- The CLEAR marker, written only while the marker-open flag is set, which it clears (R77). -/
def closeMarker (s : State) : State :=
  if s.controller.markerOpen then
    let s := writeTraffic .clear s
    s.setController { s.controller with markerOpen := false }
  else s

/-- The CONNECT marker, written only while the marker-open flag is clear, which it sets (R77). -/
def openMarker (s : State) : State :=
  if s.controller.markerOpen then s
  else
    let s := writeTraffic .connect s
    s.setController { s.controller with markerOpen := true }

/-- Entry to FREE (R84). -/
def enterFree (s : State) : State :=
  let s := if s.controller.state.connected || s.controller.state == .clearing then closeMarker s else s
  stopCounter
    (dropRequests
      (s.setController
        { s.controller with
          state := .free
          originate := false
          originateTimer := .stopped
          confirmTimer := none
          clearTimer := none
          callKind := none }))

/-- CLEARED is raised with its cause (R85). -/
def raiseCleared (cause : Byte) (s : State) : State := raise evCleared (some cause) s

/-- The line plane and the stream plane are set to LETTERS (R76, R78). -/
def lettersPlanes (s : State) : State :=
  (s.setReceiver { s.receiver with linePlane := .letters }).setTransmitter
    { s.transmitter with streamPlane := .letters }

/-- REFUSING is entered and the refusal sequence formed; with both records empty CLEARING follows in the
same event (R80, R96). -/
def enterRefusing (s : State) : State :=
  let s := setLine .refusing s
  match s.tables.answerBack ++ s.tables.refusal with
  | [] => enterClearing s
  | c :: cs => s.setTransmitter { s.transmitter with sequencer := .refusal (c :: cs) }

/-- A run that passed the break threshold before the entry to ESTABLISHED raises nothing later (R64). -/
def markBreakPassed (s : State) : State :=
  match s.receiver.run with
  | none => s
  | some r =>
    if r.start + s.setup.line.breakThreshold < s.now then
      s.setReceiver { s.receiver with run := some { r with breakDone := true } }
    else s

/-- Entry to ESTABLISHED: the event, and the answer-back request of an answered call (R79). -/
def enterEstablished (s : State) : State :=
  let s := raise evEstablished none (markBreakPassed (setLine .established s))
  if s.controller.callKind = some .answered ∧ s.modes.answerOnEstablish = true ∧ s.tables.answerBack ≠ [] then
    requestAnswerBack false s
  else s

/-- A motor fault ends WAKING: an answered call is refused, an originated one cleared (R78). -/
def wakingFault (s : State) : State :=
  if s.controller.callKind = some .answered then enterRefusing (lettersPlanes s) else enterClearing s

/-- WAKING is entered; with the motor RUNNING the entry ends in ESTABLISHED, and with the motor in FAULT
the fault is acted on (R78). -/
def enterWaking (s : State) : State :=
  let s := setLine .waking s
  match s.motor.state with
  | .running => enterEstablished s
  | .fault => wakingFault s
  | .stopped => s
  | .runup => s

/-- Entering WAKING (accepted) or REFUSING from a call: call kind, forced ONLINE, CONNECT, planes, then the
state itself (R76). -/
def enterCall (kind : CallKind) (accepted : Bool) (s : State) : State :=
  let s := s.setController { s.controller with callKind := some kind }
  let s := if kind = .answered ∧ s.modes.forcesOnline = true then changeStation .online s else s
  let s := lettersPlanes (openMarker s)
  if accepted then enterWaking s else enterRefusing s

/-- The acceptance check, by the printer route or the punch route (R75). -/
def canAccept (s : State) : Bool :=
  (!s.printer.halts.any && s.motor.state != .fault)
  || ((s.modes.source == .traffic
        || (s.modes.divert && s.modes.source == .off && !s.printer.halts.paper
            && (s.modes.station == .online || s.modes.forcesOnline)))
      && !s.punch.halts.any)

/-! ## Motor control (R169 to R171) -/

/-- A step of the punch whose turn came while the motor was not RUNNING begins at the entry to RUNNING
(R155). -/
def resumePunchStep (s : State) : State :=
  match s.punch.work with
  | some ⟨step, none, rest⟩ =>
    loadIdle (s.setPunch { s.punch with work := some ⟨step, some (s.now + step.time), rest⟩ })
  | _ => s

/-- The entry to RUNNING, reported to the punch engine and the connection controller (R170, R78). -/
def enterRunning (s : State) : State :=
  let s := resumePunchStep (loadIdle (s.setMotor { state := .running, runupEnds := none, idleEnds := none }))
  if s.controller.state = .waking then enterEstablished s else s

/-- The motor switches on and the run-up timer starts; with MOTOR_READY already asserted the entry to
RUNNING follows (R169). -/
def beginRunup (s : State) : State :=
  let s := s.setMotor
    { state := .runup, runupEnds := some (s.now + ms s.setup.motor.runupMs), idleEnds := none }
  if asserted s inMotorReady then enterRunning s else s

/-- The motor goes to FAULT: MOTOR off, timers stopped, the carriage-unsure flag set, MECH_FAULT raised
with data MOTOR, and the controller told (R170, R171, R78). -/
def enterFault (s : State) : State :=
  let s := s.setMotor { state := .fault, runupEnds := none, idleEnds := none }
  let s := raise evMechFault (some faultMotor) (s.setPrinter { s.printer with unsure := true })
  if s.controller.state = .waking then wakingFault s else s

/-- MOTOR_READY's debounced state becomes asserted (R170, R171). -/
def motorReadySet (s : State) : State := if s.motor.state = .runup then enterRunning s else s

/-- MOTOR_READY's debounced state becomes not asserted (R170, R171). -/
def motorReadyLost (s : State) : State := if s.motor.state = .running then enterFault s else s

/-- The motor stops and MOTOR goes off (R174). -/
def stopMotor (s : State) : State := s.setMotor { state := .stopped, runupEnds := none, idleEnds := none }

/-! ## Keystrokes (R117, R118) and feed requests (R157) -/

/-- A refused keystroke or HERE_IS locks the keyboard, rings once and raises KEYBOARD_LOCKED (R118). -/
def lockKeyboard (s : State) : State :=
  raise evKeyboardLocked none (ringBell 1 (s.setKeyboard { s.keyboard with locked := true }))

/-- A keystroke of a CODE key with the plane it needs (R117). -/
def strikeCode (c : Code) (need : Option Plane) (s : State) : State :=
  if s.keyboard.locked then s
  else
    match putChar (destination s) .keyboard need c s with
    | some s' => s'
    | none => lockKeyboard s

/-- A keystroke of a RUBOUT key: one ERASE entry (R117). -/
def strikeErase (s : State) : State :=
  if s.keyboard.locked then s
  else if 1 ≤ freeSpace s (destination s) then
    appendEntry (destination s) (.erase (textOrigin (destination s) .keyboard)) s
  else lockKeyboard s

/-- A keystroke of the key at a position, by its kind as it stands (R111, R117). -/
def strikeKey (k : Fin 64) (s : State) : State :=
  match s.tables.keys[k] with
  | .code c plane => strikeCode c plane s
  | .rubout => strikeErase s
  | _ => s

/-- n feed requests are added, saturating at 255 (R157). -/
def addFeeds (n : Nat) (s : State) : State :=
  s.setPunch { s.punch with feeds := satAdd 255 s.punch.feeds n }

/-! ## Repeat (R115, R116) -/

/-- A held CODE key, or a RUBOUT key held that no reload from CODE has barred from repeating (R113 to R115;
logs 10 and 34). -/
def repeatable (s : State) (k : Fin 64) : Bool :=
  s.keyboard.states[k].pressed &&
    (s.tables.keys[k].isCode || (s.tables.keys[k] == .rubout && !s.keyboard.barred[k]))

/-- The repeating key, when the repeat condition holds (R115). -/
def repeatKeyNow (s : State) : Option (Fin 64) :=
  if (List.finRange 64).any fun k => s.keyboard.states[k].pressed && s.tables.keys[k] == .repeatKey then
    match (List.finRange 64).filter (repeatable s) with
    | [k] => some k
    | _ => none
  else none

/-- The repeat condition is looked at afresh: a new repeating key starts the delay, none stops the timing,
the same one goes on (R115, R116). -/
def updateRepeat (s : State) : State :=
  match repeatKeyNow s with
  | none => s.setKeyboard { s.keyboard with repeating := none }
  | some k =>
    match s.keyboard.repeating with
    | some r =>
      if r.key = k then s
      else s.setKeyboard { s.keyboard with repeating := some ⟨k, s.now + ms s.setup.keyboard.delayMs⟩ }
    | none =>
      s.setKeyboard { s.keyboard with repeating := some ⟨k, s.now + ms s.setup.keyboard.delayMs⟩ }

end Sys2Proof.Machine
end

