-- ==== Sys2Proof/Machine/LinkOps.lean ====
section
/-! DEFINITION. The host link: the outgoing choice (R187, R199), the STATUS reply (R202), the taking of
records (R186) and framing faults (R185). -/

namespace Sys2Proof.Machine

/-! ## STATUS (R202) -/

/-- The fields of the STATUS reply after its status byte, in the order of R202. -/
def statusFields (s : State) : List Byte :=
  [s.controller.state.value, s.modes.station.value, s.modes.source.value, flagByte s.modes.farOnly,
   s.transmitter.state.value, haltValue s.transmitter.halt,
   printerState s, s.printer.halts.value, byte s.printer.column, byte s.setup.printer.width,
   flagByte s.printer.unsure,
   punchState s, s.punch.halts.value, byte s.punch.feeds,
   s.motor.state.value, flagByte s.keyboard.locked, senseSet s]
  ++ be4 (s.ring .traffic).w.toNat ++ be4 (s.ring .send).w.toNat ++ be4 (s.ring .loc).w.toNat
  ++ [byte (setByte (allCursors.map fun c => (s.cursor c).attached))]
  ++ allCursors.flatMap fun c => be4 (unread s c)

/-! ## The outgoing link (R187, R199) -/

/-- A record as it is sent: kind, length, payload (R206). -/
def frameRecord (kind : Byte) (payload : List Byte) : List Byte := kind :: byte payload.length :: payload

/-- Sending of a record begins now. -/
def beginSending (bytes : List Byte) (reply : Bool) (s : State) : State :=
  s.setLink { s.link with out := some ⟨bytes, s.now, reply⟩ }

/-- The waiting reply begins; a STATUS reply's contents are fixed here and the host is told the debounced
states (R188, R202, R177). -/
def beginReply (r : Reply) (s : State) : State :=
  let s := s.setLink { s.link with waiting := none }
  match r with
  | .record k p => beginSending (frameRecord k p) true s
  | .status => markReported (beginSending (frameRecord 0xD0 (statusOk :: statusFields s)) true s)

/-- Event e is pending and enabled. -/
def offerable (s : State) (e : Fin 16) : Bool := s.events[e].pending && s.events[e].enabled

/-- The event the table offers: pending, enabled, lowest priority number, then lowest number (R199). -/
def offered (s : State) : Option (Fin 16) :=
  (List.range 4).findSome? fun p =>
    (List.finRange 16).find? fun e => offerable s e && s.events[e].priority == p

/-- SENSE_CHANGE takes the debounced states into its data field when its notice is sent; the other events hold
theirs since their occurrence (R198; log 21). -/
def takeEventData (e : Fin 16) (s : State) : State :=
  if e = evSenseChange then s.setEvents (s.events.set e { s.events[e] with data := senseSet s }) else s

/-- The data a notice of event e carries (R199). -/
def noticeData (s : State) (e : Fin 16) : List Byte := if eventHasData e then [s.events[e].data] else []

/-- A notice of event e begins: its contents are fixed and the event is cleared (R199). -/
def beginNotice (e : Fin 16) (s : State) : State :=
  let s := takeEventData e s
  let bytes := frameRecord 0xFF (byte e.val :: byte s.events[e].count :: noticeData s e)
  let s := clearEvent e (beginSending bytes false s)
  if e = evSenseChange then markReported s else s

/-- The outgoing choice, made whenever the link is free: an owed reply first, else an offered notice
(R187). It closes every step (log 7). -/
def chooseOutgoing (s : State) : State :=
  match s.link.out with
  | some _ => s
  | none =>
    match s.link.waiting with
    | some r => beginReply r s
    | none =>
      match offered s with
      | some e => beginNotice e s
      | none => s

/-- The end of every meaning: the outgoing choice, then the next state. -/
def finish (s : State) : Host.Outcome State Fault Refusal := .next (chooseOutgoing s)

/-! ## Incoming records (R183 to R188) -/

/-- A reply is owed, waiting or being sent (R186). -/
def replyOwed (s : State) : Bool :=
  s.link.waiting.isSome ||
    match s.link.out with
    | some o => o.reply
    | none => false

/-- The assembly buffer empties; no gap is timed (R183, R184). -/
def emptyBuffer (s : State) : State :=
  s.setLink { s.link with buffer := .empty, gapFrom := none }

/-- A reply becomes owed (R186). -/
def oweReply (r : Reply) (s : State) : State := s.setLink { s.link with waiting := some r }

/-- A record completes: while a reply is owed it is discarded with LINK_ERROR OVERRUN; otherwise the
command acts and its reply is owed (R186). -/
def takeRecord (act : State → Reply × State) (s : State) : State :=
  let s := emptyBuffer s
  if replyOwed s then raise evLinkError (some errorOverrun) s
  else oweReply (act s).1 (act s).2

/-- A framing fault: the partial record is discarded, LINK_ERROR FRAME raised and resynchronizing entered;
while resynchronizing it only restarts the gap timing (R185). -/
def framingFault (s : State) : State :=
  if s.link.resync then s.setLink { s.link with gapFrom := some s.now }
  else
    raise evLinkError (some errorFrame)
      (s.setLink { s.link with buffer := .empty, resync := true, gapFrom := some s.now })

/-- A whole record given as one command: its bytes are discarded while resynchronizing, a payload above 64
bytes is a framing fault at its length byte, and otherwise the record completes (R185, R186; log 8). -/
def hostRecord (length : Nat) (act : State → Reply × State) (s : State) : State :=
  if s.link.resync then s.setLink { s.link with gapFrom := some s.now }
  else if 64 < length then framingFault s
  else takeRecord act s

/-- A reply to a command kind: the kind plus 80h, the status and the fields (R188). -/
def replyTo (kind status : Byte) (fields : List Byte) : Reply := .record (kind + 0x80) (status :: fields)

/-- A refused command gets the status alone and changes nothing (R188). -/
def refuse (kind status : Byte) (s : State) : Reply × State := (replyTo kind status [], s)

end Sys2Proof.Machine
end

