-- ==== Sys2Proof/Machine/Receiver.lean ====
section
/-! DEFINITION. The line receiver, the spacing-run counter and what a transition of LINE_IN does at each
block (R44 to R66, R69 to R73). A `do…` answers the state after the step, or none where the step's
conditions do not hold (log 3). -/

namespace Sys2Proof.Machine

/-- A step that takes place ends in its state; one whose conditions do not hold changes nothing (log 3). -/
def happen (o : Option State) (s : State) : Host.Outcome State Fault Refusal :=
  match o with
  | some t => finish t
  | none => .next s

/-! ## Code units (R49, R60) -/

/-- The bit of a code that code unit k carries: k - 1 in NORMAL order, 5 - k in REVERSED (R49). -/
def unitBit (o : UnitOrder) (k : Nat) : Nat :=
  match o with
  | .normal => k - 1
  | .reversed => 5 - k

/-- The weight of code unit k (R49). -/
def unitWeight (o : UnitOrder) (k : Nat) : Code := BitVec.ofNat 5 (2 ^ unitBit o k)

/-- Code unit k of a code is mark (R49, R60, R156). -/
def unitMark (o : UnitOrder) (c : Code) (k : Nat) : Bool := c.getLsbD (unitBit o k)

/-! ## Distortion (R50) -/

/-- A transition at elapsed time e is measured against boundary k = (e + floor(U/2)) div U, 1 to 6; it
raises the largest early or late deviation (R50). -/
def Assembly.measure (l : LineSetup) (t : Nat) (a : Assembly) : Assembly :=
  let e := t - a.t0
  let k := (e + l.unitLength / 2) / l.unitLength
  if 0 < e ∧ e ≤ 6 * l.unitLength + l.offset ∧ 1 ≤ k ∧ k ≤ 6 then
    if e < k * l.unitLength then { a with early := max a.early (k * l.unitLength - e) }
    else { a with late := max a.late (e - k * l.unitLength) }
  else a

/-! ## Transitions of LINE_IN (R44) -/

def setRx (r : RxState) (s : State) : State := s.setReceiver { s.receiver with state := r }

/-- A start-edge claim stands now: it is taken before T + floor(U/5) or not at all (R46, R61, R99). -/
def claimStands (s : State) : Bool :=
  match s.transmitter.echo with
  | some ⟨_, some ends⟩ => decide (s.now < ends)
  | _ => false

/-- The claim is taken or withdrawn; the slot keeps its code (R46). -/
def takeClaim (s : State) : State :=
  s.setTransmitter { s.transmitter with echo := s.transmitter.echo.map fun e => { e with claim := none } }

/-- A start edge: ASSEMBLING from now, OWN when a claim stands, which it takes (R46). -/
def startEdge (s : State) : State :=
  let a : Assembly := { t0 := s.now, own := claimStands s, next := 0, code := 0, early := 0, late := 0 }
  let s' := setRx (.assembling a) s
  if claimStands s then takeClaim s' else s'

/-- A mark-to-space transition at the receiver (R44). -/
def spaceAtReceiver (s : State) : State :=
  match s.receiver.state with
  | .hunting => if receiverActive s then startEdge s else s
  | .assembling a => setRx (.assembling (a.measure s.setup.line s.now)) s
  | .waitMark => s

/-- A space in CALL_PENDING: the mark was not a call (R72, R73). -/
def callNotConfirmed (s : State) : State :=
  if s.controller.originate then
    if s.controller.originateTimer = .expired then raiseCleared causeAbandoned (enterFree s)
    else s.setController { s.controller with state := .originating, confirmTimer := none }
  else enterFree s

/-- A mark-to-space transition at the connection controller (R69, R71, R73). -/
def spaceAtController (s : State) : State :=
  if s.controller.state = .callPending then callNotConfirmed s else s

/-- A spacing run begins now, where the counter runs (R63). -/
def beginRun (s : State) : State :=
  if counterRuns s then
    s.setReceiver { s.receiver with run := some { start := s.now, breakDone := false, clearDone := false } }
  else s

/-- LINE_IN falls at an instant; a line already in space makes no transition (R44, R45). -/
def doMarkToSpace (time : Nat) (s : State) : Option State :=
  if s.lineIn then some (beginRun (spaceAtController (spaceAtReceiver ((s.upTo time).setLineIn false)))) else none

/-- A space-to-mark transition at the receiver (R44). -/
def markAtReceiver (s : State) : State :=
  match s.receiver.state with
  | .hunting => s
  | .assembling a => setRx (.assembling (a.measure s.setup.line s.now)) s
  | .waitMark => setRx .hunting s

/-- CALL_PENDING is entered and the confirm timer starts from now (R69, R71). -/
def enterCallPending (s : State) : State :=
  s.setController
    { s.controller with
      state := .callPending
      confirmTimer := some (s.now + ms s.setup.line.confirmMs) }

/-- A space-to-mark transition at the connection controller (R69, R71). -/
def markAtController (s : State) : State :=
  match s.controller.state with
  | .free => enterCallPending (s.setController { s.controller with originate := false })
  | .originating => enterCallPending s
  | _ => s

/-- LINE_IN rises at an instant; a line already at mark makes no transition (R44, R45, R63). -/
def doSpaceToMark (time : Nat) (s : State) : Option State :=
  if s.lineIn then none
  else some (markAtController (stopCounter (markAtReceiver ((s.upTo time).setLineIn true))))

/-- A transition from the queue. One that a sample has seen ahead of its turn has had its effect (R45; log 37).
-/
def takeTransition (o : Option State) (s : State) : Host.Outcome State Fault Refusal :=
  match s.receiver.ahead with
  | 0 => happen o s
  | n + 1 => .next (s.setReceiver { s.receiver with ahead := n })

def execLineInMarkToSpace (time : Nat) (s : State) : Host.Outcome State Fault Refusal :=
  takeTransition (doMarkToSpace time s) s
def execLineInSpaceToMark (time : Nat) (s : State) : Host.Outcome State Fault Refusal :=
  takeTransition (doSpaceToMark time s) s

/-! ## What a sample sees (R45) -/

/-- A transition of LINE_IN as a command carries it: the level it leads to and its stamp. -/
def lineChange : Instr → Option (Bool × Nat)
  | .lineInMarkToSpace time => some (false, time)
  | .lineInSpaceToMark time => some (true, time)
  | _ => none

def isPowerOnReset : Instr → Bool
  | .powerOnReset _ => true
  | _ => false

/-- The transitions at the head of those that wait, not yet seen, whose stamps are at or before an instant. A
release of RESET starts the clock again, and the stamps behind it are of the new count (R45; logs 30 and 37). -/
def waitingTransitions (t : Nat) (s : State) : List (Bool × Nat) :=
  (((s.pending.takeWhile fun c => !isPowerOnReset c).filterMap lineChange).drop s.receiver.ahead).takeWhile
    fun x => decide (x.2 ≤ t)

/-- LINE_IN goes to a level at an instant; at that level already, it makes no transition (R44, R45). -/
def lineTo (level : Bool) (time : Nat) (s : State) : State :=
  ((if level then doSpaceToMark time s else doMarkToSpace time s)).getD s

/-- A waiting transition is seen ahead of its turn (R45; log 37). -/
def seeTransition (s : State) (x : Bool × Nat) : State :=
  let s := lineTo x.1 x.2 s
  s.setReceiver { s.receiver with ahead := s.receiver.ahead + 1 }

/-- The state that a sample at an instant finds: a transition stamped at or before it is seen by it, one of the
same microsecond too, wherever it stands in the queue (R45; log 37). -/
def beforeSample (t : Nat) (s : State) : State := (waitingTransitions t s).foldl seeTransition s

/-! ## Samples (R48, R49) -/

/-- The character in assembly as its next sample finds it, with the clock moved to that instant (R45, R48). -/
def atSample (s : State) : Option (Assembly × State) :=
  match s.receiver.state with
  | .assembling a =>
    let t := s.setup.line.sampleAt a.t0 a.next
    let v := beforeSample t s
    match v.receiver.state with
    | .assembling b => some (b, v.upTo t)
    | _ => none
  | _ => none

/-- A collided or missing echo: the slot empties and the halt flag is set (R99, R100). -/
def echoFailed (s : State) : State :=
  haltSending .collision (s.setTransmitter { s.transmitter with echo := none })

/-- UNIT_SAMPLE: s_0 finding space, or one of s_1 to s_5 (R48, R49). -/
def doUnitSample (s : State) : Option State :=
  match atSample s with
  | none => none
  | some (a, s) =>
    if a.next = 0 then
      if s.lineIn then none else some (setRx (.assembling { a with next := 1 }) s)
    else if a.next ≤ 5 then
      some
        (setRx
          (.assembling
            { a with
              next := a.next + 1
              code := if s.lineIn then a.code ||| unitWeight s.setup.line.order a.next else a.code })
          s)
    else none

def execUnitSample (s : State) : Host.Outcome State Fault Refusal := happen (doUnitSample s) s

/-- FALSE_START: s_0 finds mark; counted, and a missing echo for an OWN edge (R47, R48). -/
def doFalseStart (s : State) : Option State :=
  match atSample s with
  | none => none
  | some (a, s) =>
    if a.next = 0 ∧ s.lineIn = true then
      let s := s.setReceiver
        { s.receiver with
          state := .hunting
          stats := { s.receiver.stats with falseStart := bump s.receiver.stats.falseStart } }
      some (if a.own then echoFailed s else s)
    else none

def execFalseStart (s : State) : Host.Outcome State Fault Refusal := happen (doFalseStart s) s

/-! ## Completion (R51, R53, R54, R57, R58) -/

/-- The quality of a completed character (R53). -/
def qualityOf (own codeAgrees stopGood : Bool) : Quality :=
  if own then (if codeAgrees && stopGood then .good else .collided)
  else (if stopGood then .good else .stopError)

/-- The code in the echo slot is the code heard. -/
def echoAgrees (s : State) (c : Code) : Bool :=
  match s.transmitter.echo with
  | some e => e.code == c
  | none => false

/-- The quality counts (R57). -/
def RxStats.count (q : Quality) (st : RxStats) : RxStats :=
  match q with
  | .good => { st with good := bump st.good }
  | .stopError => { st with stopError := bump st.stopError }
  | .collided => { st with collided := bump st.collided }

/-- A completed character in the statistics: quality count, peaks, and the warning count at a distortion at
or above the threshold; DISTORTION is raised when that count goes from 0 to 1 (R57, R58). -/
def countCharacter (q : Quality) (early late : Nat) (s : State) : State :=
  let st := s.receiver.stats.count q
  let st := { st with peakEarly := max st.peakEarly early, peakLate := max st.peakLate late }
  if s.setup.line.warning ≤ max early late then
    let s' := s.setReceiver { s.receiver with stats := { st with warning := bump st.warning } }
    if st.warning = 0 then raise evDistortion none s' else s'
  else s.setReceiver { s.receiver with stats := st }

/-- A GOOD FAR character read as WRU in ESTABLISHED makes an answer-back request, looked up in the plane
before the update (R32). -/
def wruLookup (own : Bool) (q : Quality) (before : Plane) (c : Code) (s : State) : State :=
  if own = false ∧ q = .good ∧ s.controller.state = .established ∧ (lookup s.tables before c).fn = .wru then
    requestAnswerBack true s
  else s

/-- The echo result of an OWN character: good empties the slot, collided also sets the halt flag (R100). -/
def echoResult (own : Bool) (q : Quality) (s : State) : State :=
  if own then
    if q = .collided then echoFailed s else s.setTransmitter { s.transmitter with echo := none }
  else s

/-- What the completion of an assembly writes and changes, at its stop sample (R54). -/
def completeCharacter (a : Assembly) (s : State) : State :=
  let u := s.setup.line.unitLength
  let stopGood := s.lineIn
  let q := qualityOf a.own (echoAgrees s a.code) stopGood
  let before := s.receiver.linePlane
  let after := if stopGood then s.planeAfter before a.code else before
  let early := percentOf a.early u
  let late := percentOf a.late u
  let s := s.setReceiver
    { s.receiver with state := if stopGood then .hunting else .waitMark, linePlane := after }
  let s := writeTraffic (.char a.code after (some (if a.own then .own else .far)) (some ⟨q, max early late⟩)) s
  loadIdle (countCharacter q early late (wruLookup a.own q before a.code (echoResult a.own q s)))

/-- CHARACTER_COMPLETION at s_6 (R54). -/
def doCharacterCompletion (s : State) : Option State :=
  match atSample s with
  | none => none
  | some (a, s) => if a.next = 6 then some (completeCharacter a s) else none

def execCharacterCompletion (s : State) : Host.Outcome State Fault Refusal := happen (doCharacterCompletion s) s

/-- CLAIM_WITHDRAWN at T + floor(U/5): the echo is missing (R47). -/
def doClaimWithdrawn (s : State) : Option State :=
  match s.transmitter.echo with
  | some ⟨_, some ends⟩ => some (echoFailed (s.upTo ends))
  | _ => none

def execClaimWithdrawn (s : State) : Host.Outcome State Fault Refusal := happen (doClaimWithdrawn s) s

/-! ## Thresholds of the spacing run (R64, R65, R81) -/

/-- BREAK_THRESHOLD_REACHED, once per run: in ESTABLISHED the event, and the halt of a sending
transmitter (R64, R102). -/
def doBreakThreshold (s : State) : Option State :=
  match s.receiver.run with
  | none => none
  | some r =>
    if r.breakDone then none
    else
      let s := s.upTo (r.start + s.setup.line.breakThreshold)
      let s := s.setReceiver { s.receiver with run := some { r with breakDone := true } }
      if s.controller.state = .established then
        let s := raise evBreakReceived none s
        some (if s.transmitter.state.isSending then haltSending .breakReceived s else s)
      else some s

def execBreakThresholdReached (s : State) : Host.Outcome State Fault Refusal := happen (doBreakThreshold s) s

/-- The clear threshold at the connection controller, by the line state (R81). -/
def clearReport (s : State) : State :=
  match s.controller.state with
  | .unanswered => raiseCleared causeAbandoned (enterFree s)
  | .waking => raiseCleared causeFar (enterFree s)
  | .established => raiseCleared causeFar (enterFree s)
  | .refusing => raiseCleared causeFar (enterFree s)
  | _ => s

/-- CLEAR_THRESHOLD_REACHED, once per run (R65, R81). -/
def doClearThreshold (s : State) : Option State :=
  match s.receiver.run with
  | none => none
  | some r =>
    if r.clearDone then none
    else
      let s := s.upTo (r.start + s.setup.line.clearThreshold)
      some (clearReport (s.setReceiver { s.receiver with run := some { r with clearDone := true } }))

def execClearThresholdReached (s : State) : Host.Outcome State Fault Refusal := happen (doClearThreshold s) s

end Sys2Proof.Machine
end

