-- ==== Sys2Proof/Machine/Connection.lean ====
section
/-! DEFINITION. The connection controller's timers: CALL_CONFIRMED, ORIGINATE_TIMEOUT,
CLEAR_TIMER_EXPIRY (R71, R72, R74, R83). -/

namespace Sys2Proof.Machine

/-- What a confirmed call leads to (R74). -/
def confirmCall (s : State) : State :=
  let s := s.setController { s.controller with confirmTimer := none }
  if s.controller.originate then
    enterCall .originated true
      (s.setController { s.controller with originate := false, originateTimer := .stopped })
  else
    let s := raise evCall none s
    if s.modes.answering then enterCall .answered (canAccept s) s else setLine .unanswered s

/-- CALL_CONFIRMED: the mark has lasted the call confirm time (R74). -/
def doCallConfirmed (s : State) : Option State :=
  match s.controller.confirmTimer with
  | some t => if s.controller.state = .callPending then some (confirmCall (s.upTo t)) else none
  | none => none

def execCallConfirmed (s : State) : Host.Outcome State Fault Refusal := happen (doCallConfirmed s) s

/-- ORIGINATE_TIMEOUT: in ORIGINATING the attempt ends; in CALL_PENDING the timer is marked expired
(R71, R72). -/
def doOriginateTimeout (s : State) : Option State :=
  match s.controller.originateTimer with
  | .running t =>
    let s := s.upTo t
    match s.controller.state with
    | .originating => some (raiseCleared causeAbandoned (enterFree s))
    | .callPending => some (s.setController { s.controller with originateTimer := .expired })
    | _ => none
  | _ => none

def execOriginateTimeout (s : State) : Host.Outcome State Fault Refusal := happen (doOriginateTimeout s) s

/-- CLEAR_TIMER_EXPIRY: the key closes, the transmitter returns to IDLE, the line goes to FREE with the
CLEAR marker if open, and CLEARED is raised with cause OWN (R83). -/
def doClearTimerExpiry (s : State) : Option State :=
  match s.controller.clearTimer with
  | some t =>
    let s := s.upTo t
    some (raiseCleared causeOwn (enterFree (s.setTransmitter { s.transmitter with state := .idle })))
  | none => none

def execClearTimerExpiry (s : State) : Host.Outcome State Fault Refusal := happen (doClearTimerExpiry s) s

end Sys2Proof.Machine
end

