-- ==== Sys2Proof/Machine/Actions.lean ====
section
/-! DEFINITION. LINE ACTION, PRINTER ACTION, PUNCH ACTION and MOTOR RESTART (R70, R82, R87, R103 to R105,
R146, R164, R172, R194, R195). -/

namespace Sys2Proof.Machine

/-! ## LINE ACTION (R194) -/

/-- A taken LINE ACTION replies with the line state, the halt reason and a two-byte result (R194). -/
def lineReply (result : Nat) (s : State) : Reply × State :=
  (replyTo 0x31 statusOk ([s.controller.state.value, haltValue s.transmitter.halt] ++ be2 result), s)

/-- A LINE ACTION refused in the present line state. -/
def refuseLine (s : State) : Reply × State := refuse 0x31 statusState s

/-- ANSWER (R87). -/
def doAnswer (s : State) : Reply × State :=
  if s.controller.state = .unanswered then lineReply 0 (enterCall .answered (canAccept s) s) else refuseLine s

/-- ORIGINATE (R70). -/
def doOriginate (s : State) : Reply × State :=
  if s.controller.state = .free then
    lineReply 0
      (s.setController
        { s.controller with
          state := .originating
          originate := true
          originateTimer := .running (s.now + seconds s.setup.line.originateS) })
  else refuseLine s

/-- The timers and the flag of a call not yet confirmed (R82). -/
def stopCallTimers (s : State) : State :=
  s.setController { s.controller with originate := false, originateTimer := .stopped, confirmTimer := none }

/-- CLEAR, by the line state (R82). -/
def doClear (s : State) : Reply × State :=
  match s.controller.state with
  | .free => refuseLine s
  | .originating => lineReply 0 (raiseCleared causeAbandoned (enterFree s))
  | .callPending => lineReply 0 (enterClearing (stopCallTimers s))
  | .unanswered => lineReply 0 (enterClearing s)
  | .waking => lineReply 0 (enterClearing s)
  | .established => lineReply 0 (enterClearing s)
  | .refusing => lineReply 0 (enterClearing s)
  | .clearing => refuseLine s

/-- BREAK (R105). -/
def doBreak (s : State) : Reply × State :=
  if s.controller.state = .established then lineReply 0 (requestBreak s) else refuseLine s

/-- HERE_IS, with its outcome (R104). -/
def doHereIs (s : State) : Reply × State :=
  if s.controller.state = .established then lineReply (requestFate s) (requestAnswerBack false s) else refuseLine s

/-- HALT SEND (R103). -/
def doHaltSend (s : State) : Reply × State := lineReply 0 (haltSending .host s)

/-- RESUME SEND (R103). -/
def doResumeSend (s : State) : Reply × State :=
  lineReply 0 (s.setTransmitter { s.transmitter with halt := none })

/-- XMIT's R to SEND's W, the SEND writer plane to the stream plane; the lock is tested (R104, R119). -/
def cancelText (s : State) : State :=
  testLockOn .send (setWriterPlane .send s.transmitter.streamPlane (setUnread .xmit 0 s))

/-- CANCEL SEND, with the discarded count (R104). -/
def doCancelSend (s : State) : Reply × State := lineReply (unread s .xmit) (cancelText s)

def execAnswer (s : State) : Host.Outcome State Fault Refusal := finish (hostRecord 1 doAnswer s)
def execOriginate (s : State) : Host.Outcome State Fault Refusal := finish (hostRecord 1 doOriginate s)
def execClear (s : State) : Host.Outcome State Fault Refusal := finish (hostRecord 1 doClear s)
def execBreakSend (s : State) : Host.Outcome State Fault Refusal := finish (hostRecord 1 doBreak s)
def execHereIs (s : State) : Host.Outcome State Fault Refusal := finish (hostRecord 1 doHereIs s)
def execHaltSend (s : State) : Host.Outcome State Fault Refusal := finish (hostRecord 1 doHaltSend s)
def execResumeSend (s : State) : Host.Outcome State Fault Refusal := finish (hostRecord 1 doResumeSend s)
def execCancelSend (s : State) : Host.Outcome State Fault Refusal := finish (hostRecord 1 doCancelSend s)

/-! ## PRINTER ACTION (R146) -/

def printerReply (s : State) : Reply × State := (replyTo 0x32 statusOk [s.printer.halts.value], s)

/-- STOP sets the HOST reason (R146). -/
def doPrinterStop (s : State) : Reply × State := printerReply (haltPrinter (fun h => { h with host := true }) s)

/-- RESUME clears HOST and CARRIAGE (R146). -/
def doPrinterResume (s : State) : Reply × State :=
  printerReply
    (s.setPrinter { s.printer with halts := { s.printer.halts with host := false, carriage := false } })

def execPrinterActionStop (s : State) : Host.Outcome State Fault Refusal := finish (hostRecord 1 doPrinterStop s)
def execPrinterActionResume (s : State) : Host.Outcome State Fault Refusal :=
  finish (hostRecord 1 doPrinterResume s)

/-! ## PUNCH ACTION (R164) -/

def punchReply (s : State) : Reply × State :=
  (replyTo 0x33 statusOk [s.punch.halts.value, byte s.punch.feeds], s)

/-- STOP sets the HOST reason (R164). -/
def doPunchStop (s : State) : Reply × State := punchReply (haltPunch (fun h => { h with host := true }) s)

/-- RESUME clears the HOST reason (R164). -/
def doPunchResume (s : State) : Reply × State :=
  punchReply (s.setPunch { s.punch with halts := { s.punch.halts with host := false } })

/-- FEED n adds n feed requests; n of 0 is refused (R164). -/
def doPunchFeed (n : Byte) (s : State) : Reply × State :=
  if n = 0 then refuse 0x33 statusRange s else punchReply (addFeeds n.toNat s)

/-- STOP ignores its count byte (R195). -/
def execPunchActionStop (_count : Byte) (s : State) : Host.Outcome State Fault Refusal :=
  finish (hostRecord 2 doPunchStop s)
/-- RESUME ignores its count byte (R195). -/
def execPunchActionResume (_count : Byte) (s : State) : Host.Outcome State Fault Refusal :=
  finish (hostRecord 2 doPunchResume s)
def execPunchActionFeed (count : Byte) (s : State) : Host.Outcome State Fault Refusal :=
  finish (hostRecord 2 (doPunchFeed count) s)

/-! ## MOTOR RESTART (R172) -/

/-- FAULT is left for STOPPED, and a standing start demand runs the motor up in the same event (R172). -/
def restartMotor (s : State) : State :=
  if s.motor.state = .fault then
    let s := stopMotor s
    if startDemand s then beginRunup s else s
  else s

def doMotorRestart (s : State) : Reply × State :=
  let s := restartMotor s
  (replyTo 0x34 statusOk [s.motor.state.value], s)

def execMotorRestart (s : State) : Host.Outcome State Fault Refusal := finish (hostRecord 0 doMotorRestart s)

end Sys2Proof.Machine
end

