-- ==== Sys2Proof/Machine/Readers.lean ====
section
/-! DEFINITION. The host's writes and reader commands: WRITE TEXT, WRITE CODES, READ ENTRIES, MOVE READER,
ATTACH HOST READER (R15, R19 to R23, R36 to R38, R196, R197). -/

namespace Sys2Proof.Machine

/-! ## WRITE TEXT and WRITE CODES (R196) -/

/-- The ring byte of a host write: 0 SEND, 1 LOCAL (R196). -/
def ringOf (b : Byte) : Option RingId := if b = 0 then some .send else if b = 1 then some .loc else none

def writeStatus (whole : Bool) : Byte := if whole then statusOk else statusPartial

def doWriteText (p : List Byte) (s : State) : Reply × State :=
  match p with
  | [] => refuse 0x40 statusLength s
  | ring :: chars =>
    if 60 < chars.length then refuse 0x40 statusLength s
    else
      match ringOf ring with
      | none => refuse 0x40 statusRange s
      | some i =>
        let w := writeHostText i chars 0 0 s
        (replyTo 0x40 (writeStatus w.whole) [byte w.accepted, byte w.skipped], w.state)

def doWriteCodes (p : List Byte) (s : State) : Reply × State :=
  match p with
  | [] => refuse 0x41 statusLength s
  | ring :: codes =>
    if 60 < codes.length then refuse 0x41 statusLength s
    else
      match ringOf ring with
      | none => refuse 0x41 statusRange s
      | some i =>
        if codes.any fun b => decide (95 < b.toNat) then refuse 0x41 statusRange s
        else
          let w := writeHostCodes i codes 0 s
          (replyTo 0x41 (writeStatus w.whole) [byte w.accepted], w.state)

def execWriteText (p : List Byte) (s : State) : Host.Outcome State Fault Refusal :=
  finish (hostRecord p.length (doWriteText p) s)
def execWriteCodes (p : List Byte) (s : State) : Host.Outcome State Fault Refusal :=
  finish (hostRecord p.length (doWriteCodes p) s)

/-! ## Entries as the host reads them (R38, R206) -/

def Plane.value : Plane → Nat
  | .letters => 0
  | .figures => 1

/-- 0 FAR or KEYBOARD or absent, 1 OWN or HOST (R206). -/
def originValue : Option Origin → Nat
  | some .own => 1
  | some .host => 1
  | _ => 0

def Quality.value : Quality → Nat
  | .good => 0
  | .stopError => 1
  | .collided => 2

/-- Byte 2 of a CHAR: distortion plus 64 times quality, 0 where the entry carries neither (R206). -/
def heardValue : Option Heard → Nat
  | none => 0
  | some h => h.distortion + 64 * h.quality.value

/-- An entry in its four bytes, the host character looked up now (R38, R206). -/
def entryBytes (t : Tables) : Entry → List Byte
  | .char c p o h =>
    [byte (4 * originValue o), byte (c.toNat + 32 * p.value), byte (heardValue h), (lookup t p c).host]
  | .erase o => [byte (1 + 4 * originValue o), 31, 0, 0]
  | .connect => [2, 0, 0, 0]
  | .clear => [3, 0, 0, 0]

/-- The entries of n sequences from the one j places before W, oldest first (R19, R20). -/
def entriesFrom (s : State) (i : RingId) : Nat → Nat → List Entry
  | 0, _ => []
  | n + 1, j =>
    match entryBack s i j with
    | none => []
    | some e => e :: entriesFrom s i n (j - 1)

/-! ## READ ENTRIES (R19, R20) -/

/-- The host cursor a number names (R19, R22). -/
def hostCursor (b : Byte) : Option CursorId := if b = 4 then some .hostT else if b = 5 then some .hostL else none

def readReply (c : CursorId) (es : List Entry) (s : State) : Reply × State :=
  (replyTo 0x48 statusOk
    (be2 (s.cursor c).lost ++ [byte es.length] ++ es.flatMap (entryBytes s.tables)), s)

/-- The entries a TAKE returns (R19). -/
def takenEntries (c : CursorId) (count : Nat) (s : State) : List Entry :=
  entriesFrom s c.ring (min count (unread s c)) (unread s c)

/-- A TAKE advances R by the number returned; one that returns entries is an event for the lock
(R19, R119; log 16). -/
def afterTake (c : CursorId) (count : Nat) (s : State) : State :=
  let n := (takenEntries c count s).length
  if n = 0 then s else testLockOn c.ring (advanceCursor c n s)

/-- READ ENTRIES, operation TAKE; the offset is not looked at (R19). -/
def doReadTake (cursor : Byte) (count : Byte) (s : State) : Reply × State :=
  match hostCursor cursor with
  | none => refuse 0x48 statusRange s
  | some c =>
    if 15 < count.toNat then refuse 0x48 statusRange s
    else if !(s.cursor c).attached then refuse 0x48 statusState s
    else readReply c (takenEntries c count.toNat s) (afterTake c count.toNat s)

/-- The entries a PEEK returns: from R + offset, below W (R20). -/
def peekedEntries (c : CursorId) (offset count : Nat) (s : State) : List Entry :=
  entriesFrom s c.ring (min count (unread s c - offset)) (unread s c - offset)

/-- READ ENTRIES, operation PEEK (R20). -/
def doReadPeek (cursor : Byte) (offset : Half) (count : Byte) (s : State) : Reply × State :=
  match hostCursor cursor with
  | none => refuse 0x48 statusRange s
  | some c =>
    if 15 < count.toNat ∨ 2031 < offset.toNat then refuse 0x48 statusRange s
    else if !(s.cursor c).attached then refuse 0x48 statusState s
    else readReply c (peekedEntries c offset.toNat count.toNat s) s

def execReadEntriesTake (cursor : Byte) (_offset : Half) (count : Byte) (s : State) :
    Host.Outcome State Fault Refusal :=
  finish (hostRecord 5 (doReadTake cursor count) s)
def execReadEntriesPeek (cursor : Byte) (offset : Half) (count : Byte) (s : State) :
    Host.Outcome State Fault Refusal :=
  finish (hostRecord 5 (doReadPeek cursor offset count) s)

/-! ## MOVE READER (R21) -/

/-- The cursor a number 0 to 6 names (R6). -/
def cursorOf (b : Byte) : Option CursorId := allCursors[b.toNat]?

/-- A held entry taken through a cursor whose R has been changed stands marked (R18). -/
def Held.markMoved (c : CursorId) (h : Held) : Held := if h.cursor = c then { h with moved := true } else h

def markHeld (c : CursorId) (s : State) : State :=
  (s.setPrinter { s.printer with held := s.printer.held.map (Held.markMoved c) }).setPunch
    { s.punch with held := s.punch.held.map (Held.markMoved c) }

/-- The movement made: the fall of the unread count (R21). -/
def movementMade (c : CursorId) (delta : Int) (s : State) : Int :=
  (unread s c : Int) - movedUnread s c delta

/-- R is moved; a movement marks held entries, and a forward one is an event for the lock (R18, R21,
R119). -/
def moveCursor (c : CursorId) (delta : Int) (s : State) : State :=
  let m := movementMade c delta s
  let s := setUnread c (movedUnread s c delta) s
  let s := if m = 0 then s else markHeld c s
  if 0 < m then testLockOn c.ring s else s

def doMoveReader (cursor : Byte) (delta : Half) (s : State) : Reply × State :=
  match cursorOf cursor with
  | none => refuse 0x49 statusRange s
  | some c =>
    if delta.toInt < -2032 ∨ 2032 < delta.toInt then refuse 0x49 statusRange s
    else
      let m := movementMade c delta.toInt s
      let s := moveCursor c delta.toInt s
      (replyTo 0x49 statusOk (signed4 m ++ be4 (unread s c) ++ be2 (s.cursor c).lost), s)

def execMoveReader (cursor : Byte) (delta : Half) (s : State) : Host.Outcome State Fault Refusal :=
  finish (hostRecord 3 (doMoveReader cursor delta) s)

/-! ## ATTACH HOST READER (R22) -/

def attachReply (c : CursorId) (s : State) : Reply × State :=
  (replyTo 0x4A statusOk (be4 (s.cursor c).r.toNat ++ be4 (unread s c) ++ be2 (s.cursor c).lost), s)

def doAttach (cursor : Byte) (s : State) : Reply × State :=
  match hostCursor cursor with
  | none => refuse 0x4A statusRange s
  | some c => attachReply c (attachCursor c s)

/-- Detaching an attached cursor is an event of its ring for the lock (R119). -/
def detachHost (c : CursorId) (s : State) : State :=
  if (s.cursor c).attached then testLockOn c.ring (detachCursor c s) else s

def doDetach (cursor : Byte) (s : State) : Reply × State :=
  match hostCursor cursor with
  | none => refuse 0x4A statusRange s
  | some c => attachReply c (detachHost c s)

def execAttachHostReader (cursor : Byte) (s : State) : Host.Outcome State Fault Refusal :=
  finish (hostRecord 2 (doAttach cursor) s)
def execDetachHostReader (cursor : Byte) (s : State) : Host.Outcome State Fault Refusal :=
  finish (hostRecord 2 (doDetach cursor) s)

end Sys2Proof.Machine
end

