-- ==== Sys2Proof/Machine/Reset.lean ====
section
/-! DEFINITION. RESTART, block by block (R204 and each chapter's own reset rule), and the release of the
RESET pin (R205). -/

namespace Sys2Proof.Machine

/-! ## RESTART -/

/-- The line state after RESTART (R88). -/
def LineState.afterRestart : LineState → LineState
  | .waking => .clearing
  | .established => .clearing
  | .refusing => .clearing
  | .free => .free
  | .originating => .free
  | .callPending => .free
  | .unanswered => .free
  | .clearing => .free

/-- The controller and the transmitter: timers, flags and requests gone, the key released; a connection
goes through a clear spacing that begins now (R88, R89, R62). -/
def restartLine (s : State) : State :=
  let after := s.controller.state.afterRestart
  let s := s.setController { Controller.powerOn with state := after }
  let s := s.setTransmitter .powerOn
  if after = .clearing then beginClearSpacing s else s

/-- The receiver: HUNTING with nothing in assembly, plane LETTERS, statistics and counter 0 (R41, R44, R59,
R63). The queue is not touched, nor the count of the transitions in it that have been seen (log 37). -/
def restartReceiver (s : State) : State := s.setReceiver { Receiver.powerOn with ahead := s.receiver.ahead }

/-- The keyboard: every key UP, unlocked, no repeat, no feeding; the scan goes on (R125). -/
def restartKeyboard (s : State) : State :=
  s.setKeyboard
    { Keyboard.powerOn with contacts := s.keyboard.contacts, lastRead := s.keyboard.lastRead }

/-- The print engine: slot emptied, mechanisms cut off, wheel where its last completed step left it,
PAPER and COVER kept (R149). -/
def restartPrinter (s : State) : State :=
  s.setPrinter { Printer.powerOn s.printer.halts.paper s.printer.halts.cover with wheelAt := s.printer.wheelAt }

/-- The punch engine: slot emptied, mechanism cut off, TAPE_OUT and COVER kept (R166). -/
def restartPunch (s : State) : State := s.setPunch (.powerOn s.punch.halts.tapeOut s.punch.halts.cover)

/-- Every event's pending flag and count are cleared; SENSE_CHANGE is raised again where the debounced
states differ from those reported (R178, R204). -/
def restartEvents (s : State) : State :=
  raiseSenseChange (s.setEvents (s.events.map EventRecord.cleared))

/-- RESTART's effects at its taking (R204). The rings are emptied, the demands with them, so the motor is
left STOPPED (R182). -/
def restartAll (s : State) : State :=
  let s := restartKeyboard (restartReceiver (restartLine (resetRings s)))
  let s := restartPunch (restartPrinter s)
  restartEvents ((s.setMotor .powerOn).setBell .powerOn)

def doRestart (s : State) : Reply × State := (replyTo 0x7E statusOk [], restartAll s)

/-! ## The RESET pin -/

/-- POWER_ON_RESET: every block at its power-on value, the link speed from RATE, the halt reasons and the
debounced states from the sense pins as they stand, SENSE_CHANGE raised where one is asserted (R178, R205).
The outside is not touched: the levels of the pins, the contacts and the queue (log 1); the clock starts
again (log 30). -/
def powerOn (rateHigh : Bool) (s : State) : State :=
  raiseSenseChange
    { State.reset with
      ticket := s.ticket
      lineIn := s.lineIn
      keyboard := { Keyboard.powerOn with contacts := s.keyboard.contacts }
      printer := .powerOn s.sense[inPaperOut].pin s.sense[inCoverOpen].pin
      punch := .powerOn s.sense[inTapeOut].pin s.sense[inCoverOpen].pin
      sense := s.sense.map fun i => .powerOn i.pin
      link := .powerOn rateHigh
      pending := s.pending }

def execPowerOnReset (rateHigh : Bool) (s : State) : Host.Outcome State Fault Refusal :=
  finish (powerOn rateHigh s)

end Sys2Proof.Machine
end

