-- ==== Sys2Proof/Machine/Setups.lean ====
section
/-! DEFINITION. The setup commands, RING LAYOUT, the loads and SET MODE (R24, R28, R40, R42, R86, R94,
R124, R126, R150, R181, R191 to R193). Each `do…` gives the reply and the state; each `exec…` is the
command as a whole record. -/

namespace Sys2Proof.Machine

/-- OK, or CLAMPED when a value was replaced or raised. -/
def setupStatus (changed : Bool) : Byte := if changed then statusClamped else statusOk

/-! ## LINE SETUP (R42, R43) -/

/-- Each numeric value is brought into its range (R42), and the clear threshold is raised above the break
threshold (R43). -/
def LineSetup.accepted (l : LineSetup) : LineSetup :=
  let u := clampNat 5000 40000 l.unitLength
  let b := clampNat 8 255 l.breakUnits
  { l with
    unitLength := u
    stopFactor := clampNat 100 200 l.stopFactor
    orientation := clampNat 20 80 l.orientation
    breakUnits := b
    clearMs := max (clampNat 200 10000 l.clearMs) (b * u / 1000 + 1)
    confirmMs := clampNat 20 1000 l.confirmMs
    originateS := clampNat 1 120 l.originateS
    breakMs := clampNat 100 2000 l.breakMs
    clearSendMs := clampNat 500 10000 l.clearSendMs
    warning := clampNat 10 50 l.warning }

/-- The fields of LINE SETUP and its reply (R191). -/
def LineSetup.fields (l : LineSetup) : List Byte :=
  be2 l.unitLength ++ [byte l.stopFactor, byte l.orientation, flagByte (l.order == .reversed), flagByte l.unshift,
    byte l.breakUnits] ++ be2 l.clearMs ++ be2 l.confirmMs ++ [byte l.originateS] ++ be2 l.breakMs
  ++ be2 l.clearSendMs ++ [byte l.warning]

/-- LINE SETUP: the state check, the value check, the clamp (R42). -/
def doLineSetup (p : List Byte) (s : State) : Reply × State :=
  match p with
  | [u1, u0, f, o, order, unshift, bu, c1, c0, cf1, cf0, orig, b1, b0, cs1, cs0, w] =>
    if s.controller.state ≠ .free then refuse 0x10 statusState s
    else if 1 < order.toNat ∨ 1 < unshift.toNat then refuse 0x10 statusRange s
    else
      let given : LineSetup :=
        { unitLength := num2 u1 u0, stopFactor := f.toNat, orientation := o.toNat,
          order := if order = 1 then .reversed else .normal, unshift := unshift == 1,
          breakUnits := bu.toNat, clearMs := num2 c1 c0, confirmMs := num2 cf1 cf0,
          originateS := orig.toNat, breakMs := num2 b1 b0, clearSendMs := num2 cs1 cs0, warning := w.toNat }
      (replyTo 0x10 (setupStatus (given.accepted != given)) given.accepted.fields,
        s.setSetup { s.setup with line := given.accepted })
  | _ => refuse 0x10 statusLength s

def execLineSetup (p : List Byte) (s : State) : Host.Outcome State Fault Refusal :=
  finish (hostRecord p.length (doLineSetup p) s)

/-! ## PRINTER SETUP (R126, R127) -/

/-- The values as accepted: in range, the margin bell column at most the width of the same command, as that is
accepted, not as it was sent (R126; log 36). -/
def PrinterSetup.accepted (v : PrinterSetup) : PrinterSetup :=
  let w := clampNat 40 80 v.width
  { v with width := w, margin := clampNat 0 w v.margin, endFeeds := clampNat 0 15 v.endFeeds }

def PrinterSetup.fields (v : PrinterSetup) : List Byte :=
  [byte v.width, byte v.margin, flagByte v.autoNewline, byte v.endFeeds]

/-- The column that the operations in flight lead to: one further for a strike that an advance is to follow, and
for an advance (R130). -/
def columnReached (p : Printer) : Nat :=
  p.column
  + (match p.hammer with
    | some k => if k.atWidth then 0 else 1
    | none => 0)
  + (match p.carriage with
    | .advancing _ => 1
    | _ => 0)

/-- The accepted values are put in force. A width below the column waits, and so does one below the column that
an operation in flight leads to, which would else carry the column past the width (R127, R140; log 12). -/
def putPrinterSetup (v : PrinterSetup) (s : State) : State :=
  if columnReached s.printer ≤ v.width then
    (s.setSetup { s.setup with printer := v }).setPrinter { s.printer with waitingWidth := none }
  else
    (s.setSetup { s.setup with printer := { v with width := s.setup.printer.width } }).setPrinter
      { s.printer with waitingWidth := some v.width }

def doPrinterSetup (p : List Byte) (s : State) : Reply × State :=
  match p with
  | [w, m, auto, feeds] =>
    if 1 < auto.toNat then refuse 0x11 statusRange s
    else
      let given : PrinterSetup :=
        { width := w.toNat, margin := m.toNat, autoNewline := auto == 1, endFeeds := feeds.toNat }
      (replyTo 0x11 (setupStatus (given.accepted != given)) given.accepted.fields,
        putPrinterSetup given.accepted s)
  | _ => refuse 0x11 statusLength s

def execPrinterSetup (p : List Byte) (s : State) : Host.Outcome State Fault Refusal :=
  finish (hostRecord p.length (doPrinterSetup p) s)

/-! ## KEYBOARD SETUP (R124) -/

def KeyboardSetup.accepted (v : KeyboardSetup) : KeyboardSetup :=
  { debounce := clampNat 1 8 v.debounce, delayMs := clampNat 100 2000 v.delayMs,
    periodMs := clampNat 50 500 v.periodMs }

def KeyboardSetup.fields (v : KeyboardSetup) : List Byte :=
  [byte v.debounce] ++ be2 v.delayMs ++ be2 v.periodMs

def doKeyboardSetup (p : List Byte) (s : State) : Reply × State :=
  match p with
  | [d, l1, l0, p1, p0] =>
    let given : KeyboardSetup := { debounce := d.toNat, delayMs := num2 l1 l0, periodMs := num2 p1 p0 }
    (replyTo 0x12 (setupStatus (given.accepted != given)) given.accepted.fields,
      s.setSetup { s.setup with keyboard := given.accepted })
  | _ => refuse 0x12 statusLength s

def execKeyboardSetup (p : List Byte) (s : State) : Host.Outcome State Fault Refusal :=
  finish (hostRecord p.length (doKeyboardSetup p) s)

/-! ## PUNCH SETUP (R150) -/

def PunchSetup.accepted (v : PunchSetup) : PunchSetup :=
  { leader := clampNat 0 31 v.leader, trailer := clampNat 0 31 v.trailer }

def PunchSetup.fields (v : PunchSetup) : List Byte := [byte v.leader, byte v.trailer]

def doPunchSetup (p : List Byte) (s : State) : Reply × State :=
  match p with
  | [l, t] =>
    let given : PunchSetup := { leader := l.toNat, trailer := t.toNat }
    (replyTo 0x13 (setupStatus (given.accepted != given)) given.accepted.fields,
      s.setSetup { s.setup with punch := given.accepted })
  | _ => refuse 0x13 statusLength s

def execPunchSetup (p : List Byte) (s : State) : Host.Outcome State Fault Refusal :=
  finish (hostRecord p.length (doPunchSetup p) s)

/-! ## MOTOR AND BELL SETUP (R181) -/

def MotorSetup.accepted (v : MotorSetup) : MotorSetup :=
  { runupMs := clampNat 200 5000 v.runupMs, idleS := clampNat 0 600 v.idleS, tone := clampNat 400 2000 v.tone }

/-- The polarity of an input; a change turns its raw state over, which starts its stability timing again
(R175). -/
def SenseInput.withPolarity (i : SenseInput) (low : Bool) (now : Nat) : SenseInput :=
  if i.assertedLow = low then i else { i with assertedLow := low, since := now }

def motorFields (s : State) : List Byte :=
  be2 s.setup.motor.runupMs ++ be2 s.setup.motor.idleS ++ be2 s.setup.motor.tone
  ++ s.sense.toList.map fun i => flagByte i.assertedLow

def doMotorAndBellSetup (p : List Byte) (s : State) : Reply × State :=
  match p with
  | [r1, r0, i1, i0, t1, t0, p0, p1, p2, p3, p4, p5] =>
    if [p0, p1, p2, p3, p4, p5].any fun b => decide (1 < b.toNat) then refuse 0x14 statusRange s
    else
      let given : MotorSetup := { runupMs := num2 r1 r0, idleS := num2 i1 i0, tone := num2 t1 t0 }
      let s := s.setSetup { s.setup with motor := given.accepted }
      let s := s.setSense
        (Vector.zipWith (fun i b => i.withPolarity (b == 1) s.now) s.sense #v[p0, p1, p2, p3, p4, p5])
      let s := loadIdle s
      (replyTo 0x14 (setupStatus (given.accepted != given)) (motorFields s), s)
  | _ => refuse 0x14 statusLength s

def execMotorAndBellSetup (p : List Byte) (s : State) : Host.Outcome State Fault Refusal :=
  finish (hostRecord p.length (doMotorAndBellSetup p) s)

/-! ## RING LAYOUT (R24) -/

/-- A ring's place in the store is one it may have (R3, R24). -/
def ringFits (base len : Nat) : Bool :=
  decide (16 ≤ len) && decide (len ≤ 2032) && decide (base + len ≤ cellCount)

/-- Two rings share no cell (R3). -/
def ringsApart (b1 l1 b2 l2 : Nat) : Bool := decide (b1 + l1 ≤ b2) || decide (b2 + l2 ≤ b1)

/-- The layout check of R24. -/
def layoutOk (tb tl sb sl lb ll : Nat) : Bool :=
  ringFits tb tl && ringFits sb sl && ringFits lb ll
  && ringsApart tb tl sb sl && ringsApart tb tl lb ll && ringsApart sb sl lb ll

/-- The state check of R24. -/
def layoutReady (s : State) : Bool :=
  s.controller.state == .free && s.printer.held.isNone && s.punch.held.isNone && s.transmitter.state == .idle

/-- The three descriptors are set and the rings reset (R24, R25). -/
def layOut (tb tl sb sl lb ll : Nat) (s : State) : State :=
  resetRings
    (s.setStore
      { s.store with
        rings := { traffic := Ring.fresh tb tl, send := Ring.fresh sb sl, loc := Ring.fresh lb ll } })

def doRingLayout (p : List Byte) (s : State) : Reply × State :=
  match p with
  | [tb1, tb0, tl1, tl0, sb1, sb0, sl1, sl0, lb1, lb0, ll1, ll0] =>
    let tb := num2 tb1 tb0
    let tl := num2 tl1 tl0
    let sb := num2 sb1 sb0
    let sl := num2 sl1 sl0
    let lb := num2 lb1 lb0
    let ll := num2 ll1 ll0
    if !layoutReady s then refuse 0x18 statusState s
    else if !layoutOk tb tl sb sl lb ll then refuse 0x18 statusLayout s
    else (replyTo 0x18 statusOk [], layOut tb tl sb sl lb ll s)
  | _ => refuse 0x18 statusLength s

def execRingLayout (p : List Byte) (s : State) : Host.Outcome State Fault Refusal :=
  finish (hostRecord p.length (doRingLayout p) s)

/-! ## LOAD CODES (R28) -/

/-- The function of a value 0 to 8 (R27). -/
def codeFnOf (n : Nat) : CodeFn :=
  match n with
  | 1 => .printing
  | 2 => .space
  | 3 => .cr
  | 4 => .lf
  | 5 => .ltrs
  | 6 => .figs
  | 7 => .bell
  | 8 => .wru
  | _ => .null

/-- Three-byte entries; none when the bytes are not a whole number of them. -/
def triples : List Byte → Option (List (Byte × Byte × Byte))
  | [] => some []
  | a :: b :: c :: rest => (triples rest).map ((a, b, c) :: ·)
  | _ => none

/-- A three-byte code-table entry (R206). -/
def codeEntryOf (e : Byte × Byte × Byte) : CodeEntry :=
  { fn := codeFnOf e.1.toNat, glyph := Fin.ofNat 64 e.2.1.toNat, host := e.2.2 }

/-- Entries written at an index and the indexes after it (R28). -/
def writeCodeEntries (n : Nat) : List (Byte × Byte × Byte) → Vector CodeEntry 64 → Vector CodeEntry 64
  | [], t => t
  | e :: rest, t => writeCodeEntries (n + 1) rest (t.setIfInBounds n (codeEntryOf e))

def doLoadCodes (p : List Byte) (s : State) : Reply × State :=
  match p with
  | [] => refuse 0x20 statusLength s
  | start :: rest =>
    match triples rest with
    | none => refuse 0x20 statusLength s
    | some es =>
      if 63 < start.toNat ∨ 20 < es.length ∨ 64 < start.toNat + es.length
          ∨ es.any (fun e => decide (8 < e.1.toNat) || decide (63 < e.2.1.toNat)) then
        refuse 0x20 statusRange s
      else
        (replyTo 0x20 statusOk [],
          s.setTables { s.tables with codes := writeCodeEntries start.toNat es s.tables.codes })

def execLoadCodes (p : List Byte) (s : State) : Host.Outcome State Fault Refusal :=
  finish (hostRecord p.length (doLoadCodes p) s)

/-! ## LOAD KEYS (R40) -/

/-- Two-byte entries; none when the bytes are not a whole number of them. -/
def pairs : List Byte → Option (List (Byte × Byte))
  | [] => some []
  | a :: b :: rest => (pairs rest).map ((a, b) :: ·)
  | _ => none

/-- The plane of a CODE key: 0 LETTERS, 1 FIGURES, 2 ANY (R40). -/
def keyPlaneOf (n : Nat) : Option Plane := if n = 0 then some .letters else if n = 1 then some .figures else none

/-- A two-byte key-table entry (R40). -/
def keyEntryOf (e : Byte × Byte) : KeyEntry :=
  match e.1.toNat with
  | 1 => .code (BitVec.ofNat 5 e.2.toNat) (keyPlaneOf (e.2.toNat / 32))
  | 2 => .hereIs
  | 3 => .repeatKey
  | 4 => .rubout
  | 5 => .breakKey
  | 6 => .feed
  | 7 => .mode
  | _ => .unused

/-- A key entry whose bytes LOAD KEYS refuses (R40). -/
def keyEntryBad (e : Byte × Byte) : Bool :=
  decide (7 < e.1.toNat) || (if e.1 = 1 then decide (95 < e.2.toNat) else e.2 != 0)

def writeKeyEntries (n : Nat) : List (Byte × Byte) → Vector KeyEntry 64 → Vector KeyEntry 64
  | [], t => t
  | e :: rest, t => writeKeyEntries (n + 1) rest (t.setIfInBounds n (keyEntryOf e))

/-- A held key reloaded to a kind other than FEED no longer feeds (R114; log 11). -/
def keepFeeding (s : State) : State :=
  s.setKeyboard
    { s.keyboard with
      feeding := Vector.zipWith (fun f e => f && e == KeyEntry.feed) s.keyboard.feeding s.tables.keys }

/-- A held key reloaded from CODE to another kind can no longer be repeated; one reloaded to CODE can (R114;
log 34). -/
def barReloaded (before : Vector KeyEntry 64) (s : State) : State :=
  s.setKeyboard
    { s.keyboard with
      barred := Vector.ofFn fun k : Fin 64 =>
        !s.tables.keys[k].isCode
          && (s.keyboard.barred[k] || (s.keyboard.states[k].pressed && before[k].isCode)) }

def doLoadKeys (p : List Byte) (s : State) : Reply × State :=
  match p with
  | [] => refuse 0x21 statusLength s
  | start :: rest =>
    match pairs rest with
    | none => refuse 0x21 statusLength s
    | some es =>
      if 63 < start.toNat ∨ 64 < start.toNat + es.length ∨ es.any keyEntryBad then refuse 0x21 statusRange s
      else
        (replyTo 0x21 statusOk [],
          updateRepeat (barReloaded s.tables.keys (keepFeeding
            (s.setTables { s.tables with keys := writeKeyEntries start.toNat es s.tables.keys }))))

def execLoadKeys (p : List Byte) (s : State) : Host.Outcome State Fault Refusal :=
  finish (hostRecord p.length (doLoadKeys p) s)

/-! ## LOAD ANSWER-BACK and LOAD REFUSAL TEXT (R94) -/

/-- Why a record load is refused, if it is: LENGTH above 20, RANGE for a byte above 31, STATE while the
sequencer holds something (R94). -/
def recordRefusal (p : List Byte) (s : State) : Option Byte :=
  if 20 < p.length then some statusLength
  else if p.any fun b => decide (31 < b.toNat) then some statusRange
  else if s.transmitter.sequencer ≠ .empty then some statusState
  else none

def codesOf (p : List Byte) : List Code := p.map fun b => BitVec.ofNat 5 b.toNat

def doLoadAnswerBack (p : List Byte) (s : State) : Reply × State :=
  match recordRefusal p s with
  | some why => refuse 0x22 why s
  | none => (replyTo 0x22 statusOk [], s.setTables { s.tables with answerBack := codesOf p })

def execLoadAnswerBack (p : List Byte) (s : State) : Host.Outcome State Fault Refusal :=
  finish (hostRecord p.length (doLoadAnswerBack p) s)

def doLoadRefusalText (p : List Byte) (s : State) : Reply × State :=
  match recordRefusal p s with
  | some why => refuse 0x23 why s
  | none => (replyTo 0x23 statusOk [], s.setTables { s.tables with refusal := codesOf p })

def execLoadRefusalText (p : List Byte) (s : State) : Host.Outcome State Fault Refusal :=
  finish (hostRecord p.length (doLoadRefusalText p) s)

/-! ## SET MODE (R86, R193) -/

def stationOf (b : Byte) : StationMode := if b = 1 then .localMode else .online

def sourceOf (b : Byte) : PunchSource := if b = 1 then .traffic else if b = 2 then .loc else .off

/-- The seven flags together; a station mode or a punch source differing from the one in force is a change
of it (R193). That the station changes before the source, when one command changes both, is the model's choice
(log 32). -/
def putModes (answering onEstablish forces divert station source filter : Byte) (s : State) : State :=
  let s := s.setModes
    { s.modes with
      answering := answering == 1
      answerOnEstablish := onEstablish == 1
      forcesOnline := forces == 1
      divert := divert == 1
      farOnly := filter == 1 }
  changeSource (sourceOf source) (changeStation (stationOf station) s)

def doSetMode (p : List Byte) (s : State) : Reply × State :=
  match p with
  | [a, e, f, d, st, src, fil] =>
    if ([a, e, f, d, st, fil].any fun b => decide (1 < b.toNat)) || decide (2 < src.toNat) then
      refuse 0x30 statusRange s
    else (replyTo 0x30 statusOk [], putModes a e f d st src fil s)
  | _ => refuse 0x30 statusLength s

def execSetMode (p : List Byte) (s : State) : Host.Outcome State Fault Refusal :=
  finish (hostRecord p.length (doSetMode p) s)

end Sys2Proof.Machine
end

