-- ==== Sys2Proof/WellFormed.lean ====
section
/-! DEFINITION. Which commands can be sent: a record carries at most 64 payload bytes (R183), and an
UNKNOWN_KIND names a kind that is no command of R190. An ill-formed command still has a meaning
(log 3, log 8); these checks say which terms stand for something a sender can do. -/

namespace Sys2Proof

/-- The kinds of R190, in its order. -/
def commandKinds : List Byte :=
  [0x10, 0x11, 0x12, 0x13, 0x14, 0x18, 0x20, 0x21, 0x22, 0x23, 0x30, 0x31, 0x32, 0x33, 0x34,
   0x40, 0x41, 0x48, 0x49, 0x4A, 0x50, 0x51, 0x60, 0x61, 0x7E]

/-- A payload that a record can frame (R183). -/
def frames (payload : List Byte) : Bool := payload.length ≤ 64

/-- The command stands for something a sender can do. -/
def Instr.wellFormed : Instr → Bool
  | .unknownKind k p => frames p && !commandKinds.contains k
  | .lineSetup p => frames p
  | .printerSetup p => frames p
  | .keyboardSetup p => frames p
  | .punchSetup p => frames p
  | .motorAndBellSetup p => frames p
  | .ringLayout p => frames p
  | .loadCodes p => frames p
  | .loadKeys p => frames p
  | .loadAnswerBack p => frames p
  | .loadRefusalText p => frames p
  | .setMode p => frames p
  | .writeText p => frames p
  | .writeCodes p => frames p
  | .eventSetup p => frames p
  | .eventClear p => frames p
  | .powerOnReset _ | .hostFramingFault _ | .interByteGapExpiry | .recordOverrun
  | .answer | .originate | .clear | .breakSend | .hereIs | .haltSend | .resumeSend | .cancelSend
  | .printerActionStop | .printerActionResume | .punchActionStop _ | .punchActionResume _
  | .punchActionFeed _ | .motorRestart
  | .readEntriesTake _ _ _ | .readEntriesPeek _ _ _ | .moveReader _ _
  | .attachHostReader _ | .detachHostReader _ | .status | .statistics | .restart
  | .outgoingRecordEnd | .lineInMarkToSpace _ | .lineInSpaceToMark _ | .falseStart
  | .characterCompletion | .claimWithdrawn | .breakThresholdReached | .clearThresholdReached
  | .callConfirmed | .originateTimeout | .clearTimerExpiry | .characterBegin | .characterEnd
  | .breakBegin | .breakEnd | .keyReading _ _ | .repeatTimerExpiry | .printTake
  | .wheelTravelBegin | .printActionBegin | .implicitNewlineBegin | .implicitReturnBegin
  | .wheelStepEnd | .strikeComplete | .advanceComplete | .returnComplete | .lineFeedComplete
  | .punchTake | .blankCycleBegin | .punchActionBegin | .punchStepComplete | .motorRunupStart
  | .runupTimeout | .idleCountdownExpiry | .sensePinChange _ _ _ | .senseDebouncedChange _
  | .ringBegin | .ringEnd | .gapEnd | .hostByteReceived _ _ | .unitSample => true

end Sys2Proof
end

