-- ==== Sys2Proof/Machine/HostLink.lean ====
section
/-! DEFINITION. STATUS, STATISTICS and the event commands (R200 to R203), and the wire of the host link:
bytes, records, framing faults, gaps and the end of an outgoing record (R183 to R188, R190). -/

namespace Sys2Proof.Machine

/-! ## STATUS and STATISTICS (R202, R203) -/

/-- STATUS owes a reply whose contents wait for its sending (R202). -/
def doStatus (s : State) : Reply × State := (.status, s)

def execStatus (s : State) : Host.Outcome State Fault Refusal := finish (hostRecord 0 doStatus s)

/-- The figures of the four blocks in the order of R203. -/
def statisticsFields (s : State) : List Byte :=
  let r := s.receiver.stats
  be2 r.good ++ be2 r.stopError ++ be2 r.collided ++ be2 r.falseStart ++ [byte r.peakEarly, byte r.peakLate]
  ++ be2 r.warning ++ be2 s.transmitter.sent ++ be2 s.transmitter.dropped ++ be2 s.printer.strikes
  ++ be2 s.punch.punched ++ be2 s.punch.erases

/-- Each figure is 0 after the taking (R203). -/
def clearStatistics (s : State) : State :=
  (((s.setReceiver { s.receiver with stats := .zero }).setTransmitter
    { s.transmitter with sent := 0, dropped := 0 }).setPrinter
    { s.printer with strikes := 0 }).setPunch { s.punch with punched := 0, erases := 0 }

def doStatistics (s : State) : Reply × State := (replyTo 0x51 statusOk (statisticsFields s), clearStatistics s)

def execStatistics (s : State) : Host.Outcome State Fault Refusal := finish (hostRecord 0 doStatistics s)

/-! ## EVENT SETUP and EVENT CLEAR (R200, R201) -/

/-- The event a number names, modulo 16; the commands check the number first. -/
def eventOf (b : Byte) : Fin 16 := Fin.ofNat 16 b.toNat

/-- A setting that EVENT SETUP refuses (R200). -/
def eventSettingBad (e : Byte × Byte × Byte) : Bool :=
  decide (15 < e.1.toNat) || decide (1 < e.2.1.toNat) || decide (3 < e.2.2.toNat)

/-- One setting: enable and priority of one event (R200). -/
def applyEventSetting (e : Byte × Byte × Byte) (s : State) : State :=
  s.setEvents
    (s.events.set (eventOf e.1)
      { s.events[eventOf e.1] with enabled := e.2.1 == 1, priority := e.2.2.toNat })

/-- Settings applied in order (R200). -/
def applyEventSettings : List (Byte × Byte × Byte) → State → State
  | [], s => s
  | e :: rest, s => applyEventSettings rest (applyEventSetting e s)

def doEventSetup (p : List Byte) (s : State) : Reply × State :=
  match triples p with
  | none => refuse 0x60 statusLength s
  | some es =>
    if 16 < es.length then refuse 0x60 statusLength s
    else if es.any eventSettingBad then refuse 0x60 statusRange s
    else (replyTo 0x60 statusOk [], applyEventSettings es s)

def execEventSetup (p : List Byte) (s : State) : Host.Outcome State Fault Refusal :=
  finish (hostRecord p.length (doEventSetup p) s)

/-- Events cleared one after another (R201). -/
def clearEvents : List (Fin 16) → State → State
  | [], s => s
  | e :: rest, s => clearEvents rest (clearEvent e s)

/-- The events an EVENT CLEAR clears: those named, or every one when none is named (R201). -/
def eventsNamed (p : List Byte) : List (Fin 16) := if p = [] then List.finRange 16 else p.map eventOf

/-- The events are cleared; SENSE_CHANGE, when its pending flag has been cleared, is raised again at once
while the sense states still differ from those reported (R177, R201). -/
def clearNamed (p : List Byte) (s : State) : State :=
  let was := s.events[evSenseChange].pending
  let s := clearEvents (eventsNamed p) s
  if was && (eventsNamed p).contains evSenseChange then raiseSenseChange s else s

def doEventClear (p : List Byte) (s : State) : Reply × State :=
  if 16 < p.length then refuse 0x61 statusLength s
  else if p.any fun b => decide (15 < b.toNat) then refuse 0x61 statusRange s
  else (replyTo 0x61 statusOk [], clearNamed p s)

def execEventClear (p : List Byte) (s : State) : Host.Outcome State Fault Refusal :=
  finish (hostRecord p.length (doEventClear p) s)

/-! ## RESTART (R204) -/

def execRestart (s : State) : Host.Outcome State Fault Refusal := finish (hostRecord 0 doRestart s)

/-! ## Kinds (R188, R190) -/

/-- The reply to a record of unknown kind (R188). -/
def doUnknown (kind : Byte) (s : State) : Reply × State := (.record 0x80 [statusUnknown, kind], s)

/-- UNKNOWN_KIND, for a kind that is no command of R190; one that is a command is not this step
(log 29). -/
def execUnknownKind (kind : Byte) (p : List Byte) (s : State) : Host.Outcome State Fault Refusal :=
  if commandKinds.contains kind then .next s else finish (hostRecord p.length (doUnknown kind) s)

/-- LINE ACTION by its action byte (R194). -/
def doLineAction (p : List Byte) (s : State) : Reply × State :=
  match p with
  | [a] =>
    match a.toNat with
    | 0 => doAnswer s
    | 1 => doOriginate s
    | 2 => doClear s
    | 3 => doBreak s
    | 4 => doHereIs s
    | 5 => doHaltSend s
    | 6 => doResumeSend s
    | 7 => doCancelSend s
    | _ => refuse 0x31 statusRange s
  | _ => refuse 0x31 statusLength s

/-- PRINTER ACTION by its action byte (R195). -/
def doPrinterAction (p : List Byte) (s : State) : Reply × State :=
  match p with
  | [a] =>
    match a.toNat with
    | 0 => doPrinterStop s
    | 1 => doPrinterResume s
    | _ => refuse 0x32 statusRange s
  | _ => refuse 0x32 statusLength s

/-- PUNCH ACTION by its action byte; the count is looked at for FEED alone (R195). -/
def doPunchActionRecord (p : List Byte) (s : State) : Reply × State :=
  match p with
  | [a, n] =>
    match a.toNat with
    | 0 => doPunchStop s
    | 1 => doPunchResume s
    | 2 => doPunchFeed n s
    | _ => refuse 0x33 statusRange s
  | _ => refuse 0x33 statusLength s

/-- READ ENTRIES by its operation (R19, R197). -/
def doReadEntries (p : List Byte) (s : State) : Reply × State :=
  match p with
  | [c, op, off1, off0, n] =>
    match op.toNat with
    | 0 => doReadTake c n s
    | 1 => doReadPeek c (off1 ++ off0) n s
    | _ => refuse 0x48 statusRange s
  | _ => refuse 0x48 statusLength s

def doMove (p : List Byte) (s : State) : Reply × State :=
  match p with
  | [c, d1, d0] => doMoveReader c (d1 ++ d0) s
  | _ => refuse 0x49 statusLength s

/-- ATTACH HOST READER by its action: 0 detach, 1 attach (R197). -/
def doAttachRecord (p : List Byte) (s : State) : Reply × State :=
  match p with
  | [c, a] =>
    match a.toNat with
    | 0 => doDetach c s
    | 1 => doAttach c s
    | _ => refuse 0x4A statusRange s
  | _ => refuse 0x4A statusLength s

/-- A command that carries nothing is refused with any payload (R190). -/
def doEmpty (kind : Byte) (act : State → Reply × State) (p : List Byte) (s : State) : Reply × State :=
  match p with
  | [] => act s
  | _ => refuse kind statusLength s

/-- The dispatch of a completed record by its kind (R190). -/
def dispatch (kind : Byte) (p : List Byte) (s : State) : Reply × State :=
  match kind.toNat with
  | 0x10 => doLineSetup p s
  | 0x11 => doPrinterSetup p s
  | 0x12 => doKeyboardSetup p s
  | 0x13 => doPunchSetup p s
  | 0x14 => doMotorAndBellSetup p s
  | 0x18 => doRingLayout p s
  | 0x20 => doLoadCodes p s
  | 0x21 => doLoadKeys p s
  | 0x22 => doLoadAnswerBack p s
  | 0x23 => doLoadRefusalText p s
  | 0x30 => doSetMode p s
  | 0x31 => doLineAction p s
  | 0x32 => doPrinterAction p s
  | 0x33 => doPunchActionRecord p s
  | 0x34 => doEmpty 0x34 doMotorRestart p s
  | 0x40 => doWriteText p s
  | 0x41 => doWriteCodes p s
  | 0x48 => doReadEntries p s
  | 0x49 => doMove p s
  | 0x4A => doAttachRecord p s
  | 0x50 => doEmpty 0x50 doStatus p s
  | 0x51 => doEmpty 0x51 doStatistics p s
  | 0x60 => doEventSetup p s
  | 0x61 => doEventClear p s
  | 0x7E => doEmpty 0x7E doRestart p s
  | _ => doUnknown kind s

/-! ## Bytes (R183 to R185) -/

/-- The gap after a byte is timed from now, the end of its stop bit (R184). -/
def setBuffer (b : Buffer) (s : State) : State :=
  s.setLink { s.link with buffer := b, gapFrom := some s.now }

/-- A byte with a good stop bit, at the end of that bit (R183, R185; log 9). -/
def takeByte (b : Byte) (s : State) : State :=
  if s.link.resync then s.setLink { s.link with gapFrom := some s.now }
  else
    match s.link.buffer with
    | .empty => setBuffer (.kind b) s
    | .kind k =>
      if 64 < b.toNat then framingFault s
      else if b = 0 then takeRecord (dispatch k []) s
      else setBuffer (.payload k b.toNat []) s
    | .payload k n got =>
      if n ≤ got.length + 1 then takeRecord (dispatch k (got ++ [b])) s
      else setBuffer (.payload k n (got ++ [b])) s

/-- INTER_BYTE_GAP_EXPIRY: resynchronizing ends in silence; a partial record is discarded with LINK_ERROR
FRAME (R184, R185). -/
def doGapExpiry (s : State) : Option State :=
  match s.link.gapFrom with
  | none => none
  | some g =>
    let s := s.upTo (g + byteGapTime)
    if s.link.resync then some (s.setLink { s.link with resync := false, gapFrom := none })
    else if s.link.buffer = .empty then none
    else some (raise evLinkError (some errorFrame) (emptyBuffer s))

def execInterByteGapExpiry (s : State) : Host.Outcome State Fault Refusal := happen (doGapExpiry s) s

/-- A gap is timed, and a byte whose stop bit ends at an instant had its start bit, ten bit times before,
after the gap had exceeded 20,000 us (R183, R184). -/
def gapPassed (time : Nat) (s : State) : Bool :=
  match s.link.gapFrom with
  | none => false
  | some g =>
    (s.link.resync || s.link.buffer != .empty)
    && decide ((g + byteGapLimit) * linkRate s.link.fast + 10 * seconds 1 < time * linkRate s.link.fast)

/-- The state that a byte finds whose stop bit ends at an instant: the gap before it has run out first where its
start bit came too late (R184; log 35). -/
def beforeByte (time : Nat) (s : State) : State :=
  if gapPassed (s.upTo time).now s then
    match doGapExpiry s with
    | some t => chooseOutgoing t
    | none => s
  else s

/-- HOST_BYTE_RECEIVED (R183, R184). -/
def execHostByteReceived (b : Byte) (time : Nat) (s : State) : Host.Outcome State Fault Refusal :=
  finish (takeByte b ((beforeByte time s).upTo time))

/-- HOST_FRAMING_FAULT (R184, R185). -/
def execHostFramingFault (time : Nat) (s : State) : Host.Outcome State Fault Refusal :=
  finish (framingFault ((beforeByte time s).upTo time))

/-- RECORD_OVERRUN: a record completes while a reply is owed (R186). -/
def doOverrun (s : State) : Option State :=
  if replyOwed s && !s.link.resync then some (raise evLinkError (some errorOverrun) (emptyBuffer s)) else none

def execRecordOverrun (s : State) : Host.Outcome State Fault Refusal := happen (doOverrun s) s

/-- OUTGOING_RECORD_END: the link becomes free, and the choice that closes the step follows (R187). -/
def doRecordEnd (s : State) : Option State :=
  match s.link.out with
  | none => none
  | some o =>
    let s := s.upTo (o.start + linkTime s.link.fast o.bytes.length)
    some (s.setLink { s.link with out := none })

def execOutgoingRecordEnd (s : State) : Host.Outcome State Fault Refusal := happen (doRecordEnd s) s

end Sys2Proof.Machine
end

