-- ==== Sys2Proof/Machine/MotorSense.lean ====
section
/-! DEFINITION. Motor control's own steps (R169, R170, R174), the sense inputs (R175, R176) and the bell
generator (R180). -/

namespace Sys2Proof.Machine

/-! ## Motor control -/

/-- MOTOR_RUNUP_START: a start demand stands while STOPPED (R169). -/
def doRunupStart (s : State) : Option State :=
  if s.motor.state == .stopped && startDemand s then some (beginRunup s) else none

def execMotorRunupStart (s : State) : Host.Outcome State Fault Refusal := happen (doRunupStart s) s

/-- RUNUP_TIMEOUT: the run-up timer expires and the motor goes to FAULT (R170). -/
def doRunupTimeout (s : State) : Option State :=
  match s.motor.runupEnds with
  | some t => if s.motor.state = .runup then some (enterFault (s.upTo t)) else none
  | none => none

def execRunupTimeout (s : State) : Host.Outcome State Fault Refusal := happen (doRunupTimeout s) s

/-- The line states in which the motor may stop (R174). -/
def LineState.idleStop : LineState → Bool
  | .free => true
  | .originating => true
  | .callPending => true
  | .unanswered => true
  | _ => false

/-- IDLE_COUNTDOWN_EXPIRY: the motor stops with no start demand and the line not connected; otherwise the
countdown is loaded again (R174). -/
def doIdleExpiry (s : State) : Option State :=
  match s.motor.idleEnds with
  | some t =>
    if motorRunning s then
      let s := s.upTo t
      some (if !startDemand s && s.controller.state.idleStop then stopMotor s else loadIdle s)
    else none
  | none => none

def execIdleCountdownExpiry (s : State) : Host.Outcome State Fault Refusal := happen (doIdleExpiry s) s

/-! ## Sense inputs -/

def setInput (k : Fin 6) (i : SenseInput) (s : State) : State := s.setSense (s.sense.set k i)

/-- SENSE_PIN_CHANGE: the raw state turns over and its stability timing starts again; a pin already at the
level does not change (R175). -/
def doSensePin (k : Fin 6) (level : Bool) (time : Nat) (s : State) : Option State :=
  if s.sense[k].pin = level then none
  else
    let s := s.upTo time
    some (setInput k { s.sense[k] with pin := level, since := s.now } s)

def execSensePinChange (k : Fin 6) (level : Bool) (time : Nat) (s : State) : Host.Outcome State Fault Refusal :=
  happen (doSensePin k level time s) s

/-- The blocks that act on a debounced state becoming asserted (R176). -/
def senseAsserted (k : Fin 6) (s : State) : State :=
  if k = inPaperOut then paperOutSet s
  else if k = inTapeLow then raise evTape (some tapeLow) s
  else if k = inTapeOut then tapeOutSet s
  else if k = inMotorReady then motorReadySet s
  else if k = inCoverOpen then coverOpenSet s
  else s

/-- The blocks that act on a debounced state becoming not asserted (R176). -/
def senseReleased (k : Fin 6) (s : State) : State :=
  if k = inPaperOut then s.setPrinter { s.printer with halts := { s.printer.halts with paper := false } }
  else if k = inTapeOut then s.setPunch { s.punch with halts := { s.punch.halts with tapeOut := false } }
  else if k = inMotorReady then motorReadyLost s
  else if k = inCoverOpen then
    (s.setPrinter { s.printer with halts := { s.printer.halts with cover := false } }).setPunch
      { s.punch with halts := { s.punch.halts with cover := false } }
  else s

/-- The debounced state of an input becomes v; SENSE_CHANGE is raised where it now differs from the
reported state, and the blocks are told (R176, R177). -/
def debounceTo (k : Fin 6) (v : Bool) (s : State) : State :=
  let s := raiseSenseChange (setInput k { s.sense[k] with debounced := v } s)
  if v then senseAsserted k s else senseReleased k s

/-- SENSE_DEBOUNCED_CHANGE: a raw state held for 10,000 us becomes the debounced state (R175, R176). -/
def doDebounced (k : Fin 6) (s : State) : Option State :=
  let i := s.sense[k]
  if i.raw = i.debounced then none else some (debounceTo k i.raw (s.upTo (i.since + stabilityTime)))

def execSenseDebouncedChange (k : Fin 6) (s : State) : Host.Outcome State Fault Refusal :=
  happen (doDebounced k s) s

/-! ## The bell (R180) -/

def execRingBegin (s : State) : Host.Outcome State Fault Refusal := happen (doRingBegin s) s

/-- RING_END: after 150 ms the gap begins. -/
def doRingEnd (s : State) : Option State :=
  match s.bell.phase with
  | .ringing start _ =>
    let s := s.upTo (start + ringTime)
    some (s.setBell { s.bell with phase := .gap s.now })
  | _ => none

def execRingEnd (s : State) : Host.Outcome State Fault Refusal := happen (doRingEnd s) s

/-- GAP_END: after 100 ms the next ring begins, or QUIET. -/
def doGapEnd (s : State) : Option State :=
  match s.bell.phase with
  | .gap start =>
    let s := s.upTo (start + gapTime)
    some (if 1 ≤ s.bell.count then startRing s else s.setBell { s.bell with phase := .quiet })
  | _ => none

def execGapEnd (s : State) : Host.Outcome State Fault Refusal := happen (doGapEnd s) s

end Sys2Proof.Machine
end

