-- ==== Sys2Proof/Machine/PrintEngine.lean ====
section
/-! DEFINITION. The print engine: the held slot (R134, R135), the actions and their conditions (R137 to
R142), and the mechanisms' completions (R128 to R133). -/

namespace Sys2Proof.Machine

/-! ## What a held entry asks for (R137) -/

/-- The action of an entry, by its kind and, for a CHAR, its function as the table stands (R136, R137). -/
inductive PrintAction where
  | strike (glyph : Fin 64)
  | space
  | cr
  | lf
  | bell
  | nothing
  | connect
  | clear
  deriving DecidableEq, Repr

def printAction (t : Tables) : Entry → PrintAction
  | .char c p _ _ =>
    match (lookup t p c).fn with
    | .printing => .strike (lookup t p c).glyph
    | .space => .space
    | .cr => .cr
    | .lf => .lf
    | .bell => .bell
    | .null => .nothing
    | .ltrs => .nothing
    | .figs => .nothing
    | .wru => .nothing
  | .erase _ => .nothing
  | .connect => .connect
  | .clear => .clear

/-- The action of the held entry. -/
def heldAction (s : State) : Option PrintAction := s.printer.held.map fun h => printAction s.tables h.entry

/-- An entry that needs an implicit return while the carriage-unsure flag is set (R142). -/
def PrintAction.needsSureCarriage : PrintAction → Bool
  | .strike _ => true
  | .space => true
  | .lf => true
  | .connect => true
  | .clear => true
  | _ => false

/-- An entry that needs a place on the line (R140). -/
def PrintAction.needsColumn : PrintAction → Bool
  | .strike _ => true
  | .space => true
  | _ => false

/-- The carriage stands at the line width (R140; log 12). -/
def atWidth (s : State) : Bool := decide (s.setup.printer.width ≤ s.printer.column)

/-- The held entry first needs an implicit newline (R140). -/
def needsNewline (s : State) (a : PrintAction) : Bool :=
  a.needsColumn && s.setup.printer.autoNewline && atWidth s

def hammerIdle (s : State) : Bool := s.printer.hammer.isNone
def carriageIdle (s : State) : Bool := s.printer.carriage == .idle
def paperIdle (s : State) : Bool := s.printer.paper.isNone

/-- No feed of an implicit newline is in flight (R140; log 18). -/
def newlineFed (s : State) : Bool := !(s.printer.newline && s.printer.paper.isSome)

/-- Hammer, carriage and paper are idle. -/
def allIdle (s : State) : Bool := hammerIdle s && carriageIdle s && paperIdle s

/-! ## Operations of the mechanisms -/

/-- A return takes its time from the column, or from the line width while the flag is set (R131, R142). -/
def beginReturn (s : State) : State :=
  let from_ := if s.printer.unsure then s.setup.printer.width else s.printer.column
  loadIdle (s.setPrinter { s.printer with carriage := .returning (s.now + returnTime from_) })

/-- n line feeds run one after another, the first from now (R133, R139). -/
def beginFeeds (n : Nat) (s : State) : State :=
  match n with
  | 0 => s
  | k + 1 => loadIdle (s.setPrinter { s.printer with paper := some { ends := s.now + lineFeedTime, more := k } })

def beginAdvance (s : State) : State :=
  loadIdle (s.setPrinter { s.printer with carriage := .advancing (s.now + advanceTime) })

/-- A strike begins, one more on the printing count (R137, R148). -/
def beginStrike (s : State) : State :=
  loadIdle
    (s.setPrinter
      { s.printer with
        hammer := some { ends := s.now + strikeTime, atWidth := atWidth s && !s.setup.printer.autoNewline }
        strikes := bump s.printer.strikes })

/-- The entry leaves the slot (R135). -/
def emptyPrintSlot (s : State) : State := s.setPrinter { s.printer with held := none }

/-! ## PRINT_TAKE (R134) -/

def doPrintTake (s : State) : Option State :=
  if s.printer.held.isNone && motorRunning s && !s.printer.halts.any then
    match takeEntry (printCursor s) s with
    | none => none
    | some (e, s') =>
      some (s'.setPrinter { s'.printer with held := some { entry := e, cursor := printCursor s, moved := false } })
  else none

def execPrintTake (s : State) : Host.Outcome State Fault Refusal := happen (doPrintTake s) s

/-! ## IMPLICIT_RETURN_BEGIN (R142) and IMPLICIT_NEWLINE_BEGIN (R140) -/

def doImplicitReturn (s : State) : Option State :=
  match heldAction s with
  | none => none
  | some a =>
    if s.printer.unsure && a.needsSureCarriage && motorRunning s && hammerIdle s && carriageIdle s then
      some (beginReturn s)
    else none

def execImplicitReturnBegin (s : State) : Host.Outcome State Fault Refusal := happen (doImplicitReturn s) s

def doImplicitNewline (s : State) : Option State :=
  match heldAction s with
  | none => none
  | some a =>
    if !s.printer.unsure && needsNewline s a && motorRunning s && allIdle s then
      let s := beginFeeds 1 (beginReturn s)
      some (s.setPrinter { s.printer with newline := true })
    else none

def execImplicitNewlineBegin (s : State) : Host.Outcome State Fault Refusal := happen (doImplicitNewline s) s

/-! ## WHEEL_TRAVEL_BEGIN and WHEEL_STEP_END (R129, R137) -/

/-- The shorter way from a to b is forward, which is also taken when both are 32 steps (R129). -/
def goesForward (a b : Fin 64) : Bool := decide ((b - a).val ≤ 32)

def doWheelTravel (s : State) : Option State :=
  match heldAction s with
  | some (.strike g) =>
    if motorRunning s && s.printer.wheel == .idle && hammerIdle s && s.printer.wheelAt != g then
      some
        (loadIdle
          (s.setPrinter
            { s.printer with
              wheel := .travelling g (goesForward s.printer.wheelAt g) (s.now + wheelStepTime) }))
    else none
  | _ => none

def execWheelTravelBegin (s : State) : Host.Outcome State Fault Refusal := happen (doWheelTravel s) s

/-- A step ends: the position moves by one, and the travel completes at its target (R129). -/
def doWheelStep (s : State) : Option State :=
  match s.printer.wheel with
  | .idle => none
  | .travelling g forward ends =>
    let s := s.upTo ends
    let at_ := if forward then s.printer.wheelAt + 1 else s.printer.wheelAt - 1
    some
      (s.setPrinter
        { s.printer with
          wheelAt := at_
          wheel := if at_ = g then .idle else .travelling g forward (s.now + wheelStepTime) })

def execWheelStepEnd (s : State) : Host.Outcome State Fault Refusal := happen (doWheelStep s) s

/-! ## PRINT_ACTION_BEGIN (R137 to R141) -/

/-- The conditions under which the held entry's action begins (R137, R140 to R142). -/
def actionReady (s : State) (a : PrintAction) : Bool :=
  match a with
  | .strike g =>
    motorRunning s && !s.printer.unsure && !needsNewline s a
    && s.printer.wheel == .idle && s.printer.wheelAt == g && allIdle s
  | .space =>
    (motorRunning s || atWidth s) && !s.printer.unsure && !needsNewline s a && newlineFed s
    && hammerIdle s && carriageIdle s
  | .cr => motorRunning s && hammerIdle s && carriageIdle s
  | .lf => motorRunning s && !s.printer.unsure && hammerIdle s && paperIdle s
  | .bell => true
  | .nothing => true
  | .connect => motorRunning s && !s.printer.unsure && allIdle s
  | .clear =>
    (motorRunning s || (s.printer.column ≤ 1 && s.setup.printer.endFeeds == 0))
    && !s.printer.unsure && allIdle s

/-- The return of a marker, made when the column is above 1 (R138, R139). -/
def markerReturn (s : State) : State := if 1 < s.printer.column then beginReturn s else s

/-- The action itself (R137 to R139, R141). -/
def beginAction (a : PrintAction) (s : State) : State :=
  match a with
  | .strike _ => beginStrike s
  | .space => if atWidth s then s else beginAdvance s
  | .cr => beginReturn s
  | .lf => beginFeeds 1 s
  | .bell => ringBell 1 s
  | .nothing => s
  | .connect => beginFeeds 1 (markerReturn s)
  | .clear => beginFeeds s.setup.printer.endFeeds (markerReturn s)

/-- The held entry's action begins, and the entry leaves the slot (R135, R137). -/
def beginHeld (s : State) : Option State :=
  match heldAction s with
  | none => none
  | some a => if actionReady s a then some (emptyPrintSlot (beginAction a s)) else none

/-- The last steps of an event that has emptied the slot: the next entry is taken and considered at once, and so
on through a run of entries that need not wait, at most n of them; a ring asked for by one has begun before the
next acts (R135, R180; log 38). -/
def printRun : Nat → State → State
  | 0, s => s
  | n + 1, s =>
    match doPrintTake s with
    | none => s
    | some t =>
      match beginHeld (ringAtOnce t) with
      | none => t
      | some u => printRun n u

/-- What the print engine does after the slot has emptied, within the event (R135). -/
def printGoesOn (s : State) : State := printRun (unread s (printCursor s)) s

def doPrintAction (s : State) : Option State := (beginHeld s).map printGoesOn

def execPrintActionBegin (s : State) : Host.Outcome State Fault Refusal := happen (doPrintAction s) s

/-! ## Completions (R130 to R133, R139) -/

/-- STRIKE_COMPLETE: the advance begins with the motor RUNNING, but not after a strike made at the line
width under auto newline off (R130). -/
def doStrikeComplete (s : State) : Option State :=
  match s.printer.hammer with
  | none => none
  | some k =>
    let s := s.upTo k.ends
    let s := s.setPrinter { s.printer with hammer := none }
    some (if motorRunning s && !k.atWidth then beginAdvance s else s)

def execStrikeComplete (s : State) : Host.Outcome State Fault Refusal := happen (doStrikeComplete s) s

/-- ADVANCE_COMPLETE: the column rises by one and the margin bell may ring (R130). -/
def doAdvanceComplete (s : State) : Option State :=
  match s.printer.carriage with
  | .advancing ends =>
    let s := s.upTo ends
    let s := s.setPrinter { s.printer with carriage := .idle, column := s.printer.column + 1 }
    some (if s.setup.printer.margin ≠ 0 ∧ s.printer.column = s.setup.printer.margin then ringBell 1 s else s)
  | _ => none

def execAdvanceComplete (s : State) : Host.Outcome State Fault Refusal := happen (doAdvanceComplete s) s

/-- The carriage-home check (R132). -/
def carriageHomeCheck (s : State) : State :=
  if asserted s inCarriageHome then s.setPrinter { s.printer with unsure := false }
  else
    raise evMechFault (some faultCarriage)
      (haltPrinter (fun h => { h with carriage := true }) (s.setPrinter { s.printer with unsure := true }))

/-- A waiting line width is put in force (R127). -/
def putWaitingWidth (s : State) : State :=
  match s.printer.waitingWidth with
  | none => s
  | some w =>
    (s.setSetup { s.setup with printer := { s.setup.printer with width := w } }).setPrinter
      { s.printer with waitingWidth := none }

/-- RETURN_COMPLETE: the column becomes 1, a waiting width is put in force, and the carriage-home check is
made (R131, R132). -/
def doReturnComplete (s : State) : Option State :=
  match s.printer.carriage with
  | .returning ends =>
    let s := s.upTo ends
    let s := s.setPrinter { s.printer with carriage := .idle, column := 1 }
    some (carriageHomeCheck (putWaitingWidth s))
  | _ => none

def execReturnComplete (s : State) : Host.Outcome State Fault Refusal := happen (doReturnComplete s) s

/-- LINE_FEED_COMPLETE: the next feed of an end feed begins, whatever the motor's state (log 25), or the paper
is idle; the feed of an implicit newline is over (R133, R139, R140). -/
def doLineFeedComplete (s : State) : Option State :=
  match s.printer.paper with
  | none => none
  | some f =>
    let s := s.upTo f.ends
    let s := s.setPrinter { s.printer with paper := none, newline := false }
    some (beginFeeds f.more s)

def execLineFeedComplete (s : State) : Host.Outcome State Fault Refusal := happen (doLineFeedComplete s) s

end Sys2Proof.Machine
end

