-- ==== Sys2Proof/Machine/PunchEngine.lean ====
section
/-! DEFINITION. The punch engine: takes and the filter (R152, R153), blank cycles (R157), the actions of
held entries (R156, R158, R159), and the steps of the mechanism (R155). -/

namespace Sys2Proof.Machine

/-! ## PUNCH_TAKE (R152, R153) -/

/-- A CHAR of origin OWN, which FAR-only passes over (R152). -/
def Entry.isOwn : Entry → Bool
  | .char _ _ (some .own) _ => true
  | _ => false

/-- The next entry is taken into the slot; under FAR-only a run of OWN entries is passed over within the
event, at most n of them (R152). -/
def takeForPunch : Nat → CursorId → State → State
  | 0, _, s => s
  | n + 1, c, s =>
    match takeEntry c s with
    | none => s
    | some (e, s') =>
      if s'.modes.farOnly && e.isOwn then takeForPunch n c s'
      else s'.setPunch { s'.punch with held := some { entry := e, cursor := c, moved := false } }

def doPunchTake (s : State) : Option State :=
  match punchCursor s with
  | none => none
  | some c =>
    if s.punch.held.isNone && motorRunning s && !s.punch.halts.any && s.punch.feeds == 0
        && (entryBack s c.ring (unread s c)).isSome then
      some (takeForPunch (unread s c) c s)
    else none

def execPunchTake (s : State) : Host.Outcome State Fault Refusal := happen (doPunchTake s) s

/-! ## Beginning work (R155, R156) -/

/-- The mechanism is idle, the motor RUNNING and no halt reason set (R156). -/
def punchReady (s : State) : Bool := s.punch.work.isNone && motorRunning s && !s.punch.halts.any

/-- The steps of a cycle or erase begin, the first from now (R155, R173). -/
def beginWork (steps : List PunchStep) (s : State) : State :=
  match steps with
  | [] => s
  | step :: rest =>
    loadIdle (s.setPunch { s.punch with work := some ⟨step, some (s.now + step.time), rest⟩ })

/-- The magnets of a code: bit k - 1 set where magnet Pk is energised, code unit k being a mark under the
unit order in force (R156). -/
def codeHoles (o : UnitOrder) (c : Code) : Code :=
  BitVec.ofNat 5 (setByte ([1, 2, 3, 4, 5].map (unitMark o c)))

/-- A character cycle: a stroke and a feed step (R155). -/
def characterCycle (s : State) (c : Code) : List PunchStep :=
  [.stroke (codeHoles s.setup.line.order c) true, .feed false]

/-- BLANK_CYCLE_BEGIN: the count falls by one, run count and erase depth become 0 (R156, R157). -/
def doBlankCycle (s : State) : Option State :=
  if punchReady s && decide (1 ≤ s.punch.feeds) then
    some
      (beginWork [.stroke 0 true, .feed false]
        (s.setPunch { s.punch with feeds := s.punch.feeds - 1, runCount := 0, eraseDepth := 0 }))
  else none

def execBlankCycleBegin (s : State) : Host.Outcome State Fault Refusal := happen (doBlankCycle s) s

/-! ## PUNCH_ACTION_BEGIN (R156, R158, R159) -/

/-- The steps of a backward erase reaching e positions: back, an overpunch of code 31, forward over positions
already holed (R155, R159). -/
def eraseSteps (e : Nat) : List PunchStep :=
  List.replicate e .back ++ [.stroke 31 false] ++ List.replicate e (.feed true)

/-- An ERASE reaches one position further back, or punches 31 forward (R159). -/
def beginErase (s : State) : State :=
  let e := s.punch.eraseDepth + 1
  let s := s.setPunch { s.punch with erases := bump s.punch.erases }
  if e ≤ 8 ∧ e ≤ s.punch.runCount then
    beginWork (eraseSteps e) (s.setPunch { s.punch with eraseDepth := e })
  else
    beginWork (characterCycle s 31)
      (s.setPunch { s.punch with runCount := satAdd 255 s.punch.runCount 1, eraseDepth := 0 })

/-- A CHAR: run count and characters-punched count one more, erase depth 0, a character cycle (R156). -/
def beginCharacter (c : Code) (s : State) : State :=
  beginWork (characterCycle s c)
    (s.setPunch
      { s.punch with
        runCount := satAdd 255 s.punch.runCount 1
        eraseDepth := 0
        punched := bump s.punch.punched })

/-- The action of an entry; an OWN CHAR met under FAR-only is passed over (R152, R156, R158, R159). -/
def punchEntry (e : Entry) (s : State) : State :=
  if s.modes.farOnly && e.isOwn then s
  else
    match e with
    | .char c _ _ _ => beginCharacter c s
    | .erase _ => beginErase s
    | .connect => addFeeds s.setup.punch.leader s
    | .clear =>
      let s := addFeeds s.setup.punch.trailer s
      s.setPunch { s.punch with runCount := 0 }

/-- The held entry's action begins, or is consumed, and the entry leaves the slot (R156, R158, R159). -/
def beginPunchHeld (s : State) : Option State :=
  match s.punch.held with
  | none => none
  | some h =>
    if punchReady s && s.punch.feeds == 0 then
      some (punchEntry h.entry (s.setPunch { s.punch with held := none }))
    else none

/-- The last steps of an event that has emptied the slot: the next entry is taken and considered at once, and so
on through entries that need no cycle, at most n of them (R153, R156; log 38). -/
def punchRun : Nat → State → State
  | 0, s => s
  | n + 1, s =>
    match doPunchTake s with
    | none => s
    | some t =>
      match beginPunchHeld t with
      | none => t
      | some u => punchRun n u

/-- The unread entries of the punch cursor, none when none is attached. -/
def punchUnreadCount (s : State) : Nat :=
  match punchCursor s with
  | none => 0
  | some c => unread s c

/-- What the punch engine does after the slot has emptied, within the event (R156). -/
def punchGoesOn (s : State) : State := punchRun (punchUnreadCount s) s

def doPunchAction (s : State) : Option State := (beginPunchHeld s).map punchGoesOn

def execPunchActionBegin (s : State) : Host.Outcome State Fault Refusal := happen (doPunchAction s) s

/-! ## PUNCH_STEP_COMPLETE (R155, R123) -/

/-- How many FEED keys feed (R123). -/
def feedingKeys (s : State) : Nat := (s.keyboard.feeding.toList.filter id).length

/-- A step completes: the next begins with the motor RUNNING and otherwise waits; after the last the
mechanism is idle and each feeding key adds a request (R123, R155). -/
def doPunchStep (s : State) : Option State :=
  match s.punch.work with
  | some ⟨_, some ends, rest⟩ =>
    let s := s.upTo ends
    match rest with
    | [] => some (addFeeds (feedingKeys s) (s.setPunch { s.punch with work := none }))
    | step :: rest =>
      if motorRunning s then some (beginWork (step :: rest) s)
      else some (s.setPunch { s.punch with work := some ⟨step, none, rest⟩ })
  | _ => none

def execPunchStepComplete (s : State) : Host.Outcome State Fault Refusal := happen (doPunchStep s) s

end Sys2Proof.Machine
end

