-- ==== Sys2Proof/Machine/Scanner.lean ====
section
/-! DEFINITION. The keyboard scanner: readings and debounce (R108 to R111), press and release events
(R112, R113, R120 to R123), repeats (R116). -/

namespace Sys2Proof.Machine

/-! ## The scan (R108) -/

/-- The next reading instant of a drive line at or after the present: 8j + d + 1 ms (R108). -/
def scanInstant (s : State) (drive : Nat) : Nat :=
  ms (drive + 1) + ms 8 * ((s.now + (ms 8 - 1) - ms (drive + 1)) / ms 8)

/-- The instant of a key's next reading: one scan later when the key, or a higher one of its line, has been
read at this instant already (R108, R111). -/
def readingInstant (s : State) (k : Fin 64) : Nat :=
  let t := scanInstant s (k.val / 8)
  match s.keyboard.lastRead with
  | some (t', k') => if t' = t ∧ k ≤ k' then t + ms 8 else t
  | none => t

/-! ## Key states (R109, R110) -/

/-- What a reading makes of a key: its next state, or a press or release event. -/
inductive Reading where
  | state (k : KeyState)
  | press
  | release
  deriving DecidableEq, Repr

/-- The table of R110; a run count is compared with the debounce count in force after the reading is
counted (R124). -/
def readKey (d : Nat) (k : KeyState) (closed : Bool) : Reading :=
  match k, closed with
  | .up, true => if d ≤ 1 then .press else .state (.pressing 1)
  | .up, false => .state .up
  | .pressing n, true => if d ≤ n + 1 then .press else .state (.pressing (n + 1))
  | .pressing _, false => .state .up
  | .down, true => .state .down
  | .down, false => if d ≤ 1 then .release else .state (.releasing 1)
  | .releasing _, true => .state .down
  | .releasing n, false => if d ≤ n + 1 then .release else .state (.releasing (n + 1))
  | .suppressed _, true => .state (.suppressed 0)
  | .suppressed n, false => if d ≤ n + 1 then .state .up else .state (.suppressed (n + 1))

def setKey (k : Fin 64) (v : KeyState) (s : State) : State :=
  s.setKeyboard { s.keyboard with states := s.keyboard.states.set k v }

def setFeeding (k : Fin 64) (b : Bool) (s : State) : State :=
  s.setKeyboard { s.keyboard with feeding := s.keyboard.feeding.set k b }

/-! ## Press and release events (R112) -/

/-- How many CODE keys are held (R113). -/
def heldCodeKeys (s : State) : Nat :=
  ((List.finRange 64).filter fun k => s.keyboard.states[k].pressed && s.tables.keys[k].isCode).length

/-- HERE_IS in LOCAL mode: the answer-back record written into LOCAL all-or-none, origin KEYBOARD; nothing
while locked or with an empty record (R121). -/
def hereIsLocal (s : State) : State :=
  if s.keyboard.locked then s
  else if s.tables.answerBack.length ≤ freeSpace s .loc then
    putText .loc .keyboard (plainText s (writerPlane s .loc) s.tables.answerBack) s
  else lockKeyboard s

/-- A press of a HERE_IS key (R121). -/
def pressHereIs (s : State) : State :=
  match s.modes.station with
  | .localMode => hereIsLocal s
  | .online => if s.controller.state = .established then requestAnswerBack false s else s

/-- A press of a BREAK key (R122). -/
def pressBreak (s : State) : State :=
  if s.modes.station = .online ∧ s.controller.state = .established then requestBreak s else s

/-- The other station mode (R120). -/
def StationMode.other : StationMode → StationMode
  | .online => .localMode
  | .localMode => .online

/-- A press event acts by the key's kind as it stands; only CODE passes the rollover check (R111 to
R113). -/
def pressKey (k : Fin 64) (s : State) : State :=
  let down := setKey k .down s
  match s.tables.keys[k] with
  | .unused => down
  | .code c plane => if heldCodeKeys down ≤ 2 then strikeCode c plane down else setKey k (.suppressed 0) s
  | .hereIs => pressHereIs down
  | .repeatKey => down
  | .rubout => strikeErase down
  | .breakKey => pressBreak down
  | .feed => addFeeds 1 (setFeeding k true down)
  | .mode => changeStation s.modes.station.other down

/-- Whether a key is barred from repeating until its release (R114; log 34). -/
def setBarred (k : Fin 64) (b : Bool) (s : State) : State :=
  s.setKeyboard { s.keyboard with barred := s.keyboard.barred.set k b }

/-- A release event ends feeding by the key, and with the hold what a reload during it barred; a repeat is ended
by the condition no longer holding (R112, R114, R115, R123). -/
def releaseKey (k : Fin 64) (s : State) : State := setBarred k false (setFeeding k false (setKey k .up s))

/-- The reading of a key, at the end of its drive period (R108, R110, R111, R115). -/
def readKeyNow (k : Fin 64) (closed : Bool) (s : State) : State :=
  let s := s.setKeyboard
    { s.keyboard with contacts := s.keyboard.contacts.set k closed, lastRead := some (s.now, k) }
  updateRepeat
    (match readKey s.setup.keyboard.debounce s.keyboard.states[k] closed with
      | .state v => setKey k v s
      | .press => pressKey k s
      | .release => releaseKey k s)

/-- KEY_READING (R110). -/
def execKeyReading (k : Fin 64) (closed : Bool) (s : State) : Host.Outcome State Fault Refusal :=
  finish (readKeyNow k closed (s.upTo (readingInstant s k)))

/-! ## Repeats (R116) -/

/-- REPEAT_TIMER_EXPIRY: a keystroke of the repeating key, and the period starts (R116). -/
def doRepeat (s : State) : Option State :=
  match s.keyboard.repeating with
  | none => none
  | some r =>
    let s := s.upTo r.ends
    let s := s.setKeyboard
      { s.keyboard with repeating := some { r with ends := s.now + ms s.setup.keyboard.periodMs } }
    some (strikeKey r.key s)

def execRepeatTimerExpiry (s : State) : Host.Outcome State Fault Refusal := happen (doRepeat s) s

end Sys2Proof.Machine
end

