-- ==== Sys2Proof/Machine/Sending.lean ====
section
/-! DEFINITION. The line transmitter: line quiet and the arbiter (R90, R91), SEND entries and the shift
guard (R92, R93), sequences (R96, R97), characters and breaks (R60, R106). -/

namespace Sys2Proof.Machine

/-! ## The arbiter -/

/-- The line is quiet (R90). -/
def lineQuiet (s : State) : Bool :=
  (s.controller.state == .established || s.controller.state == .refusing)
  && s.transmitter.state == .idle && s.receiver.state == .hunting

/-- The codes that a sequence in progress has still to send (R95). -/
def Sequencer.codesLeft : Sequencer → List Code
  | .answerBack cs _ => cs
  | .refusal cs => cs
  | _ => []

/-- An answer-back request is pending (R95). -/
def Sequencer.isRequest : Sequencer → Bool
  | .request _ => true
  | _ => false

/-- The four sources of R91, in the order of their ranks. -/
inductive KeySource where
  | breakRequest
  | sequence
  | answerBackRequest
  | sendRing
  deriving DecidableEq, Repr

/-- A source is waiting (R91). -/
def waiting (s : State) : KeySource → Bool
  | .breakRequest => s.controller.state == .established && s.transmitter.breakPending
  | .sequence => !s.transmitter.sequencer.codesLeft.isEmpty
  | .answerBackRequest => s.controller.state == .established && s.transmitter.sequencer.isRequest
  | .sendRing => s.controller.state == .established && decide (1 ≤ unread s .xmit) && s.transmitter.halt.isNone

/-- The source the arbiter chooses: at a quiet instant the highest-ranked one waiting (R91). -/
def arbiter (s : State) : Option KeySource :=
  if lineQuiet s then
    [KeySource.breakRequest, .sequence, .answerBackRequest, .sendRing].find? (waiting s)
  else none

/-! ## Beginning a character -/

/-- A code is keyed from now: SENDING, with the line parameters in force, and the echo slot filled with the
code and its claim (R42, R60, R99). -/
def keyCode (c : Code) (s : State) : State :=
  s.setTransmitter
    { s.transmitter with
      state := .sending s.now c s.setup.line.keying
      echo := some { code := c, claim := some (s.setup.line.claimEnd s.now) } }

def setSequencer (q : Sequencer) (s : State) : State := s.setTransmitter { s.transmitter with sequencer := q }

/-- The shift code that the guard sends before an entry, if it must (R93). -/
def guardShift (s : State) : Entry → Option Code
  | .char c p _ _ =>
    if !neutral s.tables c && p != s.receiver.linePlane then shiftCode s.tables p else none
  | _ => none

/-- The stream plane follows a CHAR taken and no other entry (R92). -/
def followStream (e : Entry) (s : State) : State :=
  match e with
  | .char _ p _ _ => s.setTransmitter { s.transmitter with streamPlane := p }
  | _ => s

/-- The code an entry of SEND is keyed as: a CHAR's own, 31 for ERASE (R92). -/
def keyedCode : Entry → Option Code
  | .char c _ _ _ => some c
  | .erase _ => some 31
  | _ => none

/-- SEND_EMPTY is raised when a take has emptied XMIT (R92). -/
def sendEmptyCheck (s : State) : State := if unread s .xmit = 0 then raise evSendEmpty none s else s

/-- The SEND ring is chosen: the guard's shift is keyed in place of the entry, or the entry is taken and
keyed (R92, R93). -/
def beginFromSend (s : State) : Option State :=
  match entryBack s .send (unread s .xmit) with
  | none => none
  | some e =>
    match guardShift s e with
    | some sc => some (keyCode sc s)
    | none =>
      match keyedCode e, takeEntry .xmit s with
      | some c, some (_, s') => some (keyCode c (sendEmptyCheck (followStream e s')))
      | _, _ => none

/-- CHARACTER_BEGIN: the arbiter's choice other than a break is keyed (R91, R96, R97). -/
def doCharacterBegin (s : State) : Option State :=
  match arbiter s with
  | some .sequence =>
    match s.transmitter.sequencer with
    | .answerBack (c :: cs) wru => some (keyCode c (setSequencer (.answerBack cs wru) s))
    | .refusal (c :: cs) => some (keyCode c (setSequencer (.refusal cs) s))
    | _ => none
  | some .answerBackRequest =>
    match s.transmitter.sequencer, s.tables.answerBack with
    | .request wru, c :: cs => some (keyCode c (setSequencer (.answerBack cs wru) s))
    | _, _ => none
  | some .sendRing => beginFromSend s
  | _ => none

def execCharacterBegin (s : State) : Host.Outcome State Fault Refusal := happen (doCharacterBegin s) s

/-! ## Ending a character -/

/-- A sequence whose last code has been sent is done: WRU_ANSWERED for one marked by WRU, CLEARING for a
refusal (R97, R80). -/
def sequenceDone (s : State) : State :=
  match s.transmitter.sequencer with
  | .answerBack [] wru =>
    let s := setSequencer .empty s
    if wru then raise evWruAnswered none s else s
  | .refusal [] => enterClearing (setSequencer .empty s)
  | _ => s

/-- CHARACTER_END: the character is counted, the idle countdown loaded, the transmitter IDLE; in CLEARING
a sequence is ended without its report and the clear spacing begins, otherwise a finished sequence is done
(R60, R83, R97, R98, R107, R173). -/
def doCharacterEnd (s : State) : Option State :=
  match s.transmitter.state with
  | .sending start _ keying =>
    let s := s.upTo (keying.characterEnd start)
    let s := loadIdle
      (s.setTransmitter { s.transmitter with state := .idle, sent := bump s.transmitter.sent })
    some (if s.controller.state = .clearing then beginClearSpacing (setSequencer .empty s) else sequenceDone s)
  | _ => none

def execCharacterEnd (s : State) : Host.Outcome State Fault Refusal := happen (doCharacterEnd s) s

/-! ## Breaks (R106) -/

/-- BREAK_BEGIN: the key opens for the break send time, the request clears, the counter stops at 0
(R106, R66). -/
def doBreakBegin (s : State) : Option State :=
  if arbiter s = some .breakRequest then
    some
      (stopCounter
        (s.setTransmitter
          { s.transmitter with
            state := .breaking (s.now + ms s.setup.line.breakMs)
            breakPending := false }))
  else none

def execBreakBegin (s : State) : Host.Outcome State Fault Refusal := happen (doBreakBegin s) s

/-- BREAK_END: the key closes and the counter resumes from 0, counting from now on a line in space
(R106, R66). -/
def doBreakEnd (s : State) : Option State :=
  match s.transmitter.state with
  | .breaking ends =>
    let s := s.upTo ends
    let s := s.setTransmitter { s.transmitter with state := .idle }
    some (if s.lineIn then s else beginRun s)
  | _ => none

def execBreakEnd (s : State) : Host.Outcome State Fault Refusal := happen (doBreakEnd s) s

end Sys2Proof.Machine
end

