-- ==== Sys2Proof/Machine/Own.lean ====
section
/-! DEFINITION. The part's own steps, for an empty queue: those made at the instant at which their conditions
come to hold, and those made at the expiry of a timer (log 5). -/

namespace Sys2Proof.Machine

/-- The steps that are made as soon as their conditions hold, each with whether they hold now. A ring begins
before the next entry is taken (R180; log 38). -/
def ownAtOnce (s : State) : List (Instr × Bool) :=
  [(.ringBegin, (doRingBegin s).isSome),
   (.motorRunupStart, (doRunupStart s).isSome),
   (.breakBegin, (doBreakBegin s).isSome),
   (.characterBegin, (doCharacterBegin s).isSome),
   (.printTake, (doPrintTake s).isSome),
   (.implicitReturnBegin, (doImplicitReturn s).isSome),
   (.implicitNewlineBegin, (doImplicitNewline s).isSome),
   (.printActionBegin, (doPrintAction s).isSome),
   (.wheelTravelBegin, (doWheelTravel s).isSome),
   (.punchTake, (doPunchTake s).isSome),
   (.blankCycleBegin, (doBlankCycle s).isSome),
   (.punchActionBegin, (doPunchAction s).isSome)]

/-- The first step whose conditions hold now. -/
def atOnce (s : State) : Option Instr := ((ownAtOnce s).find? fun x => x.2).map Prod.fst

/-- A timer that runs to an instant. -/
def timed (t : Option Nat) (i : Instr) : List (Nat × Instr) :=
  match t with
  | some t => [(t, i)]
  | none => []

/-- The host link's own steps (R184, R187). The gap runs out on an empty queue, where no byte is arriving: one
that is arriving waits in the queue (log 35). -/
def linkTimers (s : State) : List (Nat × Instr) :=
  timed (s.link.out.map fun o => o.start + linkTime s.link.fast o.bytes.length) .outgoingRecordEnd
  ++ (if s.link.resync || s.link.buffer != .empty then
        timed (s.link.gapFrom.map (· + byteGapTime)) .interByteGapExpiry
      else [])

/-- The step of a sample instant (R48, R49, R54). -/
def sampleStep (a : Assembly) (lineIn : Bool) : Instr :=
  if a.next = 6 then .characterCompletion else if a.next = 0 ∧ lineIn = true then .falseStart else .unitSample

/-- The line's own steps (R47, R48, R60, R64, R65, R71, R74, R83, R106). -/
def lineTimers (s : State) : List (Nat × Instr) :=
  let l := s.setup.line
  (match s.receiver.state with
    | .assembling a => [(l.sampleAt a.t0 a.next, sampleStep a s.lineIn)]
    | _ => [])
  ++ (match s.transmitter.echo with
    | some ⟨_, some ends⟩ => [(ends, .claimWithdrawn)]
    | _ => [])
  ++ (match s.receiver.run with
    | some r =>
      (if r.breakDone then [] else [(r.start + l.breakThreshold, Instr.breakThresholdReached)])
      ++ (if r.clearDone then [] else [(r.start + l.clearThreshold, .clearThresholdReached)])
    | none => [])
  ++ (if s.controller.state = .callPending then timed s.controller.confirmTimer .callConfirmed else [])
  ++ (match s.controller.originateTimer with
    | .running t => [(t, .originateTimeout)]
    | _ => [])
  ++ timed s.controller.clearTimer .clearTimerExpiry
  ++ (match s.transmitter.state with
    | .sending start _ keying => [(keying.characterEnd start, .characterEnd)]
    | .breaking ends => [(ends, .breakEnd)]
    | _ => [])

/-- The next reading of the scan: its instant, and the position of the key, read with its contact as last
seen (R108, R111; log 31). -/
def nextReading (s : State) : Nat × Fin 64 :=
  let t := max (ms 1) ((s.now + (ms 1 - 1)) / ms 1 * ms 1)
  let first (t : Nat) : Fin 64 := Fin.ofNat 64 ((t / ms 1 - 1) % 8 * 8)
  match s.keyboard.lastRead with
  | some (t', k) =>
    if t' = t then (if k.val % 8 = 7 then (t + ms 1, first (t + ms 1)) else (t, k + 1)) else (t, first t)
  | none => (t, first t)

/-- The keyboard's own steps (R108, R116). -/
def keyboardTimers (s : State) : List (Nat × Instr) :=
  let r := nextReading s
  (r.1, .keyReading r.2 s.keyboard.contacts[r.2])
  :: timed (s.keyboard.repeating.map Repeating.ends) .repeatTimerExpiry

/-- The mechanisms' completions (R128 to R133, R155). -/
def mechanismTimers (s : State) : List (Nat × Instr) :=
  (match s.printer.wheel with
    | .travelling _ _ ends => [(ends, Instr.wheelStepEnd)]
    | .idle => [])
  ++ timed (s.printer.hammer.map Strike.ends) .strikeComplete
  ++ (match s.printer.carriage with
    | .advancing ends => [(ends, .advanceComplete)]
    | .returning ends => [(ends, .returnComplete)]
    | .idle => [])
  ++ timed (s.printer.paper.map PaperFeed.ends) .lineFeedComplete
  ++ timed (s.punch.work.bind PunchWork.ends) .punchStepComplete

/-- The own steps of motor control, the sense inputs and the bell (R170, R174, R175, R180). -/
def stationTimers (s : State) : List (Nat × Instr) :=
  (if s.motor.state = .runup then timed s.motor.runupEnds .runupTimeout else [])
  ++ (if s.motor.state = .running then timed s.motor.idleEnds .idleCountdownExpiry else [])
  ++ ((List.finRange 6).filter fun k => s.sense[k].raw != s.sense[k].debounced).map
      (fun k => (s.sense[k].since + stabilityTime, .senseDebouncedChange k))
  ++ (match s.bell.phase with
    | .ringing start _ => [(start + ringTime, .ringEnd)]
    | .gap start => [(start + gapTime, .gapEnd)]
    | .quiet => [])

/-- Every timer that runs, with the step it makes at its instant. -/
def ownTimers (s : State) : List (Nat × Instr) :=
  linkTimers s ++ lineTimers s ++ keyboardTimers s ++ mechanismTimers s ++ stationTimers s

/-- The earliest instant of a list of timers. -/
def earliest : List (Nat × Instr) → Option Nat
  | [] => none
  | (t, _) :: rest =>
    match earliest rest with
    | none => some t
    | some u => some (min t u)

/-- The steps that fall due: those of the earliest instant, once that instant has come. -/
def dueNow (s : State) : List Instr :=
  match earliest (ownTimers s) with
  | none => []
  | some t => if t ≤ s.now then ((ownTimers s).filter fun x => x.1 == t).map Prod.snd else []

/-- Which of several steps due at one instant comes first: the spec lets it go either way, and the choice is
a free value (log 6). -/
def settleTie (s : State) (is : List Instr) : Option Instr := is[Config.tieBreak s.ticket % is.length]?

/-- What the part does next by itself: an own step with the state it is made in, or none, when nothing is
due (log 5). -/
def ownStep (s : State) : Option (Instr × State) :=
  match atOnce s with
  | some i => some (i, s)
  | none =>
    match dueNow s with
    | [] => none
    | [i] => some (i, s)
    | is => (settleTie s is).map fun i => (i, s.setTicket (s.ticket + 1))

end Sys2Proof.Machine
end

