-- ==== Sys2Proof/Machine/Dispatch.lean ====
section
/-! DEFINITION. One arm for each command. -/

namespace Sys2Proof.Machine

def exec (i : Instr) (s : State) : Host.Outcome State Fault Refusal :=
  match i with
  | .powerOnReset rateHigh => Sys2Proof.Machine.execPowerOnReset rateHigh s
  | .hostFramingFault time => Sys2Proof.Machine.execHostFramingFault time s
  | .interByteGapExpiry => Sys2Proof.Machine.execInterByteGapExpiry s
  | .recordOverrun => Sys2Proof.Machine.execRecordOverrun s
  | .unknownKind kind payload => Sys2Proof.Machine.execUnknownKind kind payload s
  | .lineSetup payload => Sys2Proof.Machine.execLineSetup payload s
  | .printerSetup payload => Sys2Proof.Machine.execPrinterSetup payload s
  | .keyboardSetup payload => Sys2Proof.Machine.execKeyboardSetup payload s
  | .punchSetup payload => Sys2Proof.Machine.execPunchSetup payload s
  | .motorAndBellSetup payload => Sys2Proof.Machine.execMotorAndBellSetup payload s
  | .ringLayout payload => Sys2Proof.Machine.execRingLayout payload s
  | .loadCodes payload => Sys2Proof.Machine.execLoadCodes payload s
  | .loadKeys payload => Sys2Proof.Machine.execLoadKeys payload s
  | .loadAnswerBack payload => Sys2Proof.Machine.execLoadAnswerBack payload s
  | .loadRefusalText payload => Sys2Proof.Machine.execLoadRefusalText payload s
  | .setMode payload => Sys2Proof.Machine.execSetMode payload s
  | .answer => Sys2Proof.Machine.execAnswer s
  | .originate => Sys2Proof.Machine.execOriginate s
  | .clear => Sys2Proof.Machine.execClear s
  | .breakSend => Sys2Proof.Machine.execBreakSend s
  | .hereIs => Sys2Proof.Machine.execHereIs s
  | .haltSend => Sys2Proof.Machine.execHaltSend s
  | .resumeSend => Sys2Proof.Machine.execResumeSend s
  | .cancelSend => Sys2Proof.Machine.execCancelSend s
  | .printerActionStop => Sys2Proof.Machine.execPrinterActionStop s
  | .printerActionResume => Sys2Proof.Machine.execPrinterActionResume s
  | .punchActionStop count => Sys2Proof.Machine.execPunchActionStop count s
  | .punchActionResume count => Sys2Proof.Machine.execPunchActionResume count s
  | .punchActionFeed count => Sys2Proof.Machine.execPunchActionFeed count s
  | .motorRestart => Sys2Proof.Machine.execMotorRestart s
  | .writeText payload => Sys2Proof.Machine.execWriteText payload s
  | .writeCodes payload => Sys2Proof.Machine.execWriteCodes payload s
  | .readEntriesTake cursor offset count => Sys2Proof.Machine.execReadEntriesTake cursor offset count s
  | .readEntriesPeek cursor offset count => Sys2Proof.Machine.execReadEntriesPeek cursor offset count s
  | .moveReader cursor delta => Sys2Proof.Machine.execMoveReader cursor delta s
  | .attachHostReader cursor => Sys2Proof.Machine.execAttachHostReader cursor s
  | .detachHostReader cursor => Sys2Proof.Machine.execDetachHostReader cursor s
  | .status => Sys2Proof.Machine.execStatus s
  | .statistics => Sys2Proof.Machine.execStatistics s
  | .eventSetup payload => Sys2Proof.Machine.execEventSetup payload s
  | .eventClear payload => Sys2Proof.Machine.execEventClear payload s
  | .restart => Sys2Proof.Machine.execRestart s
  | .outgoingRecordEnd => Sys2Proof.Machine.execOutgoingRecordEnd s
  | .lineInMarkToSpace time => Sys2Proof.Machine.execLineInMarkToSpace time s
  | .lineInSpaceToMark time => Sys2Proof.Machine.execLineInSpaceToMark time s
  | .falseStart => Sys2Proof.Machine.execFalseStart s
  | .characterCompletion => Sys2Proof.Machine.execCharacterCompletion s
  | .claimWithdrawn => Sys2Proof.Machine.execClaimWithdrawn s
  | .breakThresholdReached => Sys2Proof.Machine.execBreakThresholdReached s
  | .clearThresholdReached => Sys2Proof.Machine.execClearThresholdReached s
  | .callConfirmed => Sys2Proof.Machine.execCallConfirmed s
  | .originateTimeout => Sys2Proof.Machine.execOriginateTimeout s
  | .clearTimerExpiry => Sys2Proof.Machine.execClearTimerExpiry s
  | .characterBegin => Sys2Proof.Machine.execCharacterBegin s
  | .characterEnd => Sys2Proof.Machine.execCharacterEnd s
  | .breakBegin => Sys2Proof.Machine.execBreakBegin s
  | .breakEnd => Sys2Proof.Machine.execBreakEnd s
  | .keyReading key closed => Sys2Proof.Machine.execKeyReading key closed s
  | .repeatTimerExpiry => Sys2Proof.Machine.execRepeatTimerExpiry s
  | .printTake => Sys2Proof.Machine.execPrintTake s
  | .wheelTravelBegin => Sys2Proof.Machine.execWheelTravelBegin s
  | .printActionBegin => Sys2Proof.Machine.execPrintActionBegin s
  | .implicitNewlineBegin => Sys2Proof.Machine.execImplicitNewlineBegin s
  | .implicitReturnBegin => Sys2Proof.Machine.execImplicitReturnBegin s
  | .wheelStepEnd => Sys2Proof.Machine.execWheelStepEnd s
  | .strikeComplete => Sys2Proof.Machine.execStrikeComplete s
  | .advanceComplete => Sys2Proof.Machine.execAdvanceComplete s
  | .returnComplete => Sys2Proof.Machine.execReturnComplete s
  | .lineFeedComplete => Sys2Proof.Machine.execLineFeedComplete s
  | .punchTake => Sys2Proof.Machine.execPunchTake s
  | .blankCycleBegin => Sys2Proof.Machine.execBlankCycleBegin s
  | .punchActionBegin => Sys2Proof.Machine.execPunchActionBegin s
  | .punchStepComplete => Sys2Proof.Machine.execPunchStepComplete s
  | .motorRunupStart => Sys2Proof.Machine.execMotorRunupStart s
  | .runupTimeout => Sys2Proof.Machine.execRunupTimeout s
  | .idleCountdownExpiry => Sys2Proof.Machine.execIdleCountdownExpiry s
  | .sensePinChange input level time => Sys2Proof.Machine.execSensePinChange input level time s
  | .senseDebouncedChange input => Sys2Proof.Machine.execSenseDebouncedChange input s
  | .ringBegin => Sys2Proof.Machine.execRingBegin s
  | .ringEnd => Sys2Proof.Machine.execRingEnd s
  | .gapEnd => Sys2Proof.Machine.execGapEnd s
  | .hostByteReceived byte time => Sys2Proof.Machine.execHostByteReceived byte time s
  | .unitSample => Sys2Proof.Machine.execUnitSample s

end Sys2Proof.Machine
end

