-- ==== Sys2Proof/Machine/Step.lean ====
section
/-! DEFINITION. One step: the command at the front of the queue, or, on an empty queue, the part's own next
step, or one microsecond (log 5). -/

namespace Sys2Proof.Machine

/-- What the part does with an empty queue (log 5). -/
def idleStep (s : State) : Host.Outcome State Fault Refusal :=
  match ownStep s with
  | some (i, s') => exec i s'
  | none => .next s.tick

/-- One step of the machine. -/
def step (s : State) : Host.Outcome State Fault Refusal :=
  match s.pending with
  | c :: rest => exec c (s.setPending rest)
  | [] => idleStep s

/-- The command a word spells is put at the front of the queue; no word spells one (log 26). -/
def State.withFetchWord (s : State) (nbits w : Nat) : State :=
  match decodeTableWord nbits w with
  | some c => s.setPending (c :: s.pending)
  | none => s

end Sys2Proof.Machine
end

