-- ==== Sys2Proof/Machine/Pins.lean ====
section
/-! DEFINITION. The output pins, read from the state at its instant (00 Pin summary; R60, R62, R89, R108,
R128, R155, R167, R180, R183). The wave of WSTEP and of PFEED, PHOLE and PBACK within a step is left out
(log 28). -/

namespace Sys2Proof.Machine

/-- Mark on the line while a character of code c is e microseconds old: start unit open, code units by
their weights, stop closed (R60). -/
def characterMark (l : Keying) (c : Code) (e : Nat) : Bool :=
  let k := e / l.unit
  if k = 0 then false else if k ≤ 5 then unitMark l.order c k else true

/-- LINE_KEY: true is closed, passing mark (R60, R62, R89). -/
def lineKeyClosed (s : State) : Bool :=
  match s.transmitter.state with
  | .idle => true
  | .sending start c keying => characterMark keying c (s.now - start)
  | .breaking _ => false
  | .clearSpacing => false

/-- The number of the drive line that is driven (R108). -/
def driveLine (s : State) : Nat := s.now / ms 1 % 8

/-- MOTOR (R167). -/
def motorOn (s : State) : Bool :=
  match s.motor.state with
  | .stopped => false
  | .runup => true
  | .running => true
  | .fault => false

/-- BELL: high at the ring's beginning, turned over every half-period, low out of a ring (R180). -/
def bellHigh (s : State) : Bool :=
  match s.bell.phase with
  | .quiet => false
  | .gap _ => false
  | .ringing start half =>
    decide (s.now - start < ringTime) && (s.now - start) / half % 2 == 0

/-- HAMMER (R128). -/
def hammerDriven (s : State) : Bool := s.printer.hammer.isSome

/-- CADV (R128). -/
def advanceDriven (s : State) : Bool :=
  match s.printer.carriage with
  | .advancing _ => true
  | _ => false

/-- CRET (R128). -/
def returnDriven (s : State) : Bool :=
  match s.printer.carriage with
  | .returning _ => true
  | _ => false

/-- PFEED (R128). -/
def feedDriven (s : State) : Bool := s.printer.paper.isSome

/-- WDIR while the wheel travels: true is forward (R129). -/
def wheelForward (s : State) : Option Bool :=
  match s.printer.wheel with
  | .idle => none
  | .travelling _ forward _ => some forward

/-- The step in flight at the punch; one that waits for the motor drives nothing (R155). -/
def stepInFlight (s : State) : Option PunchStep :=
  match s.punch.work with
  | some ⟨step, some _, _⟩ => some step
  | _ => none

/-- P1 to P5, bit k - 1 for Pk (R155, R156). -/
def codeMagnets (s : State) : Code :=
  match stepInFlight s with
  | some (.stroke holes _) => holes
  | _ => 0

/-- PHOLE: driven in a stroke but held released for an overpunch; released in the feed after a stroke, pulsed
alone in a feed over a position already holed (R155; log 28). -/
def holeDriven (s : State) : Bool :=
  match stepInFlight s with
  | some (.stroke _ feedHole) => feedHole
  | some (.feed pulsed) => pulsed
  | _ => false

/-- PBACK (R155). -/
def backDriven (s : State) : Bool := stepInFlight s == some .back

/-- Bit i of a byte on the link: start bit, eight data bits with the least significant first, stop bit; true is
the stop level (R183). -/
def linkBit (b : Byte) (i : Nat) : Bool := if i = 0 then false else if i ≤ 8 then b.getLsbD (i - 1) else true

/-- HTX: the bytes of the record going out, ten bit times each, back to back; the stop level between records
(R183, R205). -/
def htx (s : State) : Bool :=
  match s.link.out with
  | none => true
  | some o =>
    let k := (s.now - o.start) * linkRate s.link.fast / seconds 1
    match o.bytes[k / 10]? with
    | some b => linkBit b (k % 10)
    | none => true

end Sys2Proof.Machine
end

