-- ==== Sys2Proof/Safety.lean ====
section
/-! DEFINITION. What holds of the machine between its steps: the invariants that the claims are about. Each is
a statement of the spec about the whole part. After them, the terms in which the claims are written. -/

namespace Sys2Proof.Machine

/-! ## The character store (R1 to R7) -/

/-- Cell a belongs to the ring (R3). -/
def Ring.owns (r : Ring) (a : Nat) : Prop := r.base ≤ a ∧ a < r.base + r.len

/-- One ring: its length and place in the store, its write place, its filled indication (R3 to R5). -/
def Ring.ok (r : Ring) : Prop :=
  16 ≤ r.len ∧ r.len ≤ 2032 ∧ r.base + r.len ≤ cellCount
  ∧ r.base ≤ r.place ∧ r.place < r.base + r.len
  ∧ (r.filled = false → r.w.toNat < r.len)
  ∧ (r.filled = false → r.place = r.base + r.w.toNat)

/-- Two rings share no cell (R3). -/
def Ring.apart (r q : Ring) : Prop := r.base + r.len ≤ q.base ∨ q.base + q.len ≤ r.base

/-- The kinds of entry a ring receives, with the fields they carry there (R1, R2). -/
def entryFits : RingId → Entry → Bool
  | .traffic, .char _ _ (some .far) (some _) => true
  | .traffic, .char _ _ (some .own) (some _) => true
  | .traffic, .connect => true
  | .traffic, .clear => true
  | .send, .char _ _ none none => true
  | .send, .erase none => true
  | .loc, .char _ _ (some .keyboard) none => true
  | .loc, .char _ _ (some .host) none => true
  | .loc, .erase (some .keyboard) => true
  | _, _ => false

/-- A retained entry stands in its cell and is of a kind its ring receives (R2, R5). -/
def retainedFit (s : State) (i : RingId) : Prop :=
  ∀ j, 1 ≤ j → j ≤ (s.ring i).retained → ∃ e, entryBack s i j = some e ∧ entryFits i e = true

/-- The store: cells in canonical form, rings in the store and apart, retained entries in place. -/
def StoreOk (s : State) : Prop :=
  Memory.wf s.store.cells = true
  ∧ (s.ring .traffic).ok ∧ (s.ring .send).ok ∧ (s.ring .loc).ok
  ∧ (s.ring .traffic).apart (s.ring .send) ∧ (s.ring .traffic).apart (s.ring .loc)
  ∧ (s.ring .send).apart (s.ring .loc)
  ∧ retainedFit s .traffic ∧ retainedFit s .send ∧ retainedFit s .loc

/-- The unread count of an attached cursor lies within its ring's length (R6). -/
def CursorsBound (s : State) : Prop :=
  ∀ c : CursorId, (s.cursor c).attached = true → unread s c ≤ (s.ring c.ring).len

/-- What a cursor has unread is retained: for an attached cursor, and, while its ring has not wrapped, for every
cursor, also after the return of an entry held through it (R5, R6, R18). -/
def UnreadRetained (s : State) : Prop :=
  (∀ c : CursorId, ((s.cursor c).attached = true ∨ (s.ring c.ring).filled = false) →
    unread s c ≤ (s.ring c.ring).retained)
  ∧ ∀ h, (s.printer.held = some h ∨ s.punch.held = some h) → h.moved = false →
      (s.ring h.cursor.ring).filled = false → unread s h.cursor < (s.ring h.cursor.ring).w.toNat

/-- The attached flags follow the station mode and the punch source, and XMIT is always attached (R7). -/
def AttachedByMode (s : State) : Prop :=
  (s.cursor .printP).attached = (s.modes.station == .online)
  ∧ (s.cursor .printA).attached = (s.modes.station == .localMode)
  ∧ (s.cursor .punchT).attached = (s.modes.source == .traffic)
  ∧ (s.cursor .punchL).attached = (s.modes.source == .loc)
  ∧ (s.cursor .xmit).attached = true

/-! ## The line (R67, R77, R83) -/

/-- In the connected states a CONNECT stands open, and one stands open nowhere else but in CLEARING (R67,
R77). -/
def MarkerFollowsLine (s : State) : Prop :=
  (s.controller.state.connected = true → s.controller.markerOpen = true)
  ∧ (s.controller.markerOpen = true → s.controller.state.connected = true ∨ s.controller.state = .clearing)

/-- The clear timer runs exactly while the transmitter is in CLEAR_SPACING, and only in CLEARING; in
CLEARING without it a character is still in flight (R67, R83). -/
def ClearSpacingOk (s : State) : Prop :=
  (s.controller.clearTimer.isSome = (s.transmitter.state == .clearSpacing))
  ∧ (s.transmitter.state = .clearSpacing → s.controller.state = .clearing)
  ∧ (s.controller.state = .clearing →
      s.transmitter.state = .clearSpacing ∨ s.transmitter.state.isSending = true)

/-- What the sequencer holds follows the line: a request and an answer-back sequence in ESTABLISHED, a refusal
sequence in REFUSING, and a sequence also in CLEARING until its character in flight has ended (R83, R95, R96,
R98). -/
def SequencerFollowsLine (s : State) : Prop :=
  let ending := s.controller.state = .clearing ∧ s.transmitter.state.isSending = true
  match s.transmitter.sequencer with
  | .empty => True
  | .request _ => s.controller.state = .established
  | .answerBack _ _ => s.controller.state = .established ∨ ending
  | .refusal _ => s.controller.state = .refusing ∨ ending

/-- The timers of a call run only in the states that time it, and the call kind is known in WAKING (R68,
R71 to R73). -/
def CallTimersOk (s : State) : Prop :=
  (s.controller.confirmTimer.isSome = (s.controller.state == .callPending))
  ∧ (s.controller.originate = true → s.controller.state = .originating ∨ s.controller.state = .callPending)
  ∧ (s.controller.state = .originating →
      s.controller.originate = true ∧ ∃ t, s.controller.originateTimer = .running t)
  ∧ (s.controller.originate = false ↔ s.controller.originateTimer = .stopped)

/-! ## The engines (R143, R144, R160, R161) and the motor (R169, R173) -/

/-- A halted engine holds no entry (R144, R161). -/
def HaltedHoldNothing (s : State) : Prop :=
  (s.printer.halts.any = true → s.printer.held = none)
  ∧ (s.punch.halts.any = true → s.punch.held = none)

/-- An entry held was taken through the cursor that its engine now reads (R10, R134, R151). -/
def HeldThrough (s : State) : Prop :=
  (∀ h, s.printer.held = some h → h.cursor = printCursor s)
  ∧ (∀ h, s.punch.held = some h → punchCursor s = some h.cursor)

/-- The run-up timer runs exactly in RUNUP and the idle countdown only while RUNNING (R169, R173). -/
def MotorTimersOk (s : State) : Prop :=
  (s.motor.runupEnds.isSome = (s.motor.state == .runup))
  ∧ (s.motor.idleEnds.isSome = true → s.motor.state = .running)

/-- The saturating counts lie within their limits (R23, R57, R107, R148, R157, R156, R159, R165, R179) and
the carriage stands on the line (R140). -/
def CountsOk (s : State) : Prop :=
  s.bell.count ≤ 3 ∧ s.punch.feeds ≤ 255 ∧ s.punch.runCount ≤ 255 ∧ s.punch.eraseDepth ≤ 8
  ∧ s.punch.punched ≤ 65535 ∧ s.punch.erases ≤ 65535 ∧ s.printer.strikes ≤ 65535 ∧ 1 ≤ s.printer.column
  ∧ s.transmitter.sent ≤ 65535 ∧ s.transmitter.dropped ≤ 65535
  ∧ s.receiver.stats.good ≤ 65535 ∧ s.receiver.stats.stopError ≤ 65535
  ∧ s.receiver.stats.collided ≤ 65535 ∧ s.receiver.stats.falseStart ≤ 65535
  ∧ s.receiver.stats.warning ≤ 65535
  ∧ ∀ c : CursorId, (s.cursor c).lost ≤ 65535

/-! ## Setup values (R42, R43, R124, R126, R150, R181) -/

def LineSetup.inRange (l : LineSetup) : Prop :=
  (5000 ≤ l.unitLength ∧ l.unitLength ≤ 40000) ∧ (100 ≤ l.stopFactor ∧ l.stopFactor ≤ 200)
  ∧ (20 ≤ l.orientation ∧ l.orientation ≤ 80) ∧ (8 ≤ l.breakUnits ∧ l.breakUnits ≤ 255)
  ∧ (200 ≤ l.clearMs ∧ l.breakUnits * l.unitLength < l.clearMs * 1000 ∧ l.clearMs ≤ 10201)
  ∧ (20 ≤ l.confirmMs ∧ l.confirmMs ≤ 1000) ∧ (1 ≤ l.originateS ∧ l.originateS ≤ 120)
  ∧ (100 ≤ l.breakMs ∧ l.breakMs ≤ 2000) ∧ (500 ≤ l.clearSendMs ∧ l.clearSendMs ≤ 10000)
  ∧ (10 ≤ l.warning ∧ l.warning ≤ 50)

def PrinterSetup.inRange (p : PrinterSetup) : Prop :=
  40 ≤ p.width ∧ p.width ≤ 80 ∧ p.margin ≤ 80 ∧ p.endFeeds ≤ 15

def KeyboardSetup.inRange (k : KeyboardSetup) : Prop :=
  (1 ≤ k.debounce ∧ k.debounce ≤ 8) ∧ (100 ≤ k.delayMs ∧ k.delayMs ≤ 2000)
  ∧ (50 ≤ k.periodMs ∧ k.periodMs ≤ 500)

def MotorSetup.inRange (m : MotorSetup) : Prop :=
  (200 ≤ m.runupMs ∧ m.runupMs ≤ 5000) ∧ m.idleS ≤ 600 ∧ (400 ≤ m.tone ∧ m.tone ≤ 2000)

/-- Every setup value, a waiting line width too, lies in its range. -/
def SetupInRange (s : State) : Prop :=
  s.setup.line.inRange ∧ s.setup.printer.inRange ∧ s.setup.keyboard.inRange
  ∧ s.setup.punch.leader ≤ 31 ∧ s.setup.punch.trailer ≤ 31 ∧ s.setup.motor.inRange
  ∧ ∀ w, s.printer.waitingWidth = some w → 40 ≤ w ∧ w ≤ 80

/-- The carriage stands within 1 to the line width in force, and no operation in flight leads it past (R127,
R140). -/
def ColumnOnLine (s : State) : Prop :=
  1 ≤ s.printer.column ∧ columnReached s.printer ≤ s.setup.printer.width

/-! ## The event table and the link (R177, R187, R198) -/

/-- A pending event has a count of 1 to 255, one not pending a count of 0; priorities are 0 to 3 (R198). -/
def EventsOk (s : State) : Prop :=
  ∀ e : Fin 16, (s.events[e].pending = true ↔ 1 ≤ s.events[e].count)
    ∧ s.events[e].count ≤ 255 ∧ s.events[e].priority ≤ 3

/-- While the debounced states differ from what the host was last told, SENSE_CHANGE is pending (R177). -/
def SenseTold (s : State) : Prop := senseDiffers s = true → s.events[evSenseChange].pending = true

/-- The outgoing link is never free while a reply waits or an event is pending and enabled (R187). -/
def LinkServed (s : State) : Prop := s.link.out = none → s.link.waiting = none ∧ offered s = none

/-- At most one reply is owed: none waits while one is being sent (R186). -/
def OneReplyOwed (s : State) : Prop := ∀ o, s.link.out = some o → o.reply = true → s.link.waiting = none

/-! ## Terms of the claims -/

/-- A record that completes now is taken: the link is not resynchronizing and no reply is owed (R185,
R186). -/
def CommandTaken (s : State) : Prop := s.link.resync = false ∧ replyOwed s = false

/-- The host link after a command has been taken and its reply fixed: the assembly buffer empty, and the
reply begun on a free link or waiting behind the notice that is going out (R183, R186, R187). -/
def linkAfter (kind : Byte) (payload : List Byte) (s : State) : Link :=
  match s.link.out with
  | none =>
    { s.link with
      buffer := .empty, gapFrom := none, waiting := none,
      out := some { bytes := frameRecord kind payload, start := s.now, reply := true } }
  | some _ => { s.link with buffer := .empty, gapFrom := none, waiting := some (.record kind payload) }

/-- Command c is taken in s: everything but the link becomes as in t, and the reply is owed. -/
def Answers (c : Instr) (s : State) (kind : Byte) (payload : List Byte) (t : State) : Prop :=
  exec c s = .next (t.setLink (linkAfter kind payload s))

/-- Command c is taken and refused: it changes nothing and gets its status alone (R188). -/
def Refuses (c : Instr) (s : State) (kind status : Byte) : Prop := Answers c s kind [status] s

/-- A value outside its range is replaced by the nearer end of it. -/
def nearest (lo hi n : Nat) : Nat := if n < lo then lo else if hi < n then hi else n

/-- An occurrence of one event and of no other. -/
def occurs (e : Fin 16) (data : Option Byte) (s : State) : Vector EventRecord 16 :=
  s.events.set e
    { s.events[e] with
      pending := true
      count := if s.events[e].count < 255 then s.events[e].count + 1 else 255
      data := match data with
        | some d => d
        | none => s.events[e].data }

/-- The acceptance check of a call, by the printer route or the punch route (R75). -/
def Accepts (s : State) : Prop :=
  (s.printer.halts = { paper := false, cover := false, carriage := false, host := false }
    ∧ s.motor.state ≠ .fault)
  ∨ ((s.modes.source = .traffic
        ∨ (s.modes.divert = true ∧ s.modes.source = .off ∧ s.printer.halts.paper = false
            ∧ (s.modes.station = .online ∨ s.modes.forcesOnline = true)))
      ∧ s.punch.halts = { tapeOut := false, cover := false, host := false })

/-- The line after an entry to FREE that writes no marker: timers, flags and requests gone, the counter at 0
(R84). -/
def freed (s : State) : State :=
  { s with
    controller :=
      { s.controller with
        state := .free, originate := false, originateTimer := .stopped, confirmTimer := none,
        clearTimer := none, callKind := none }
    receiver := { s.receiver with run := none }
    transmitter := { s.transmitter with sequencer := .empty, breakPending := false } }

/-- The halt flag set with a reason: SEND_HALTED with that reason from a clear flag, nothing from a set one
(R101). -/
def haltedFor (why : HaltReason) (s : State) : State :=
  if s.transmitter.halt = none then
    { s with
      transmitter := { s.transmitter with halt := some why }
      events := occurs 6 (some why.value) s }
  else s

/-- The motor after a load of the idle countdown, which is made only while RUNNING (R173). -/
def idleLoaded (s : State) : Motor :=
  if s.motor.state = .running then
    { s.motor with
      idleEnds := if s.setup.motor.idleS = 0 then none else some (s.now + s.setup.motor.idleS * 1000000) }
  else s.motor

/-- What the entry to CLEARING leaves of the sequencer: a request is discarded, and a sequence in progress is
ended, after the character in flight where there is one (R83, R98). -/
def endedSequencer (s : State) : Sequencer :=
  match s.transmitter.state, s.transmitter.sequencer with
  | .sending _ _ _, .answerBack codes wru => .answerBack codes wru
  | .sending _ _ _, .refusal codes => .refusal codes
  | _, _ => .empty

/-- The entry to CLEARING (R83): at once, unless a character is in flight. -/
def cleared (s : State) : State :=
  { s with
    controller :=
      { s.controller with
        state := .clearing
        clearTimer :=
          match s.transmitter.state with
          | .sending _ _ _ => s.controller.clearTimer
          | .clearSpacing => s.controller.clearTimer
          | _ => some (s.now + s.setup.line.clearSendMs * 1000) }
    receiver := { s.receiver with run := none }
    transmitter :=
      { s.transmitter with
        state :=
          match s.transmitter.state with
          | .sending start code keying => .sending start code keying
          | _ => .clearSpacing
        sequencer := endedSequencer s
        breakPending := false } }

/-- The entry to ESTABLISHED (R79): the event, the answer-back of an answered call, and a break threshold
already passed noted so (R64). -/
def established (s : State) : State :=
  let asks := s.controller.callKind = some .answered ∧ s.modes.answerOnEstablish = true
    ∧ s.tables.answerBack ≠ []
  { s with
    controller := { s.controller with state := .established }
    receiver :=
      { s.receiver with
        run := s.receiver.run.map fun r =>
          { r with breakDone :=
              r.breakDone || decide (r.start + s.setup.line.breakUnits * s.setup.line.unitLength < s.now) } }
    transmitter :=
      { s.transmitter with
        sequencer := if asks ∧ s.transmitter.sequencer = .empty then .request false else s.transmitter.sequencer
        dropped :=
          if asks ∧ s.transmitter.sequencer ≠ .empty then min 65535 (s.transmitter.dropped + 1)
          else s.transmitter.dropped }
    events := occurs 1 none s }

/-- The move of an answered call from WAKING to REFUSING, or to CLEARING with both records empty (R78, R80). -/
def turnedAway (s : State) : State :=
  let codes := s.tables.answerBack ++ s.tables.refusal
  let u :=
    { s with
      receiver := { s.receiver with linePlane := .letters }
      transmitter := { s.transmitter with streamPlane := .letters } }
  if codes = [] then cleared u
  else
    { u with
      controller := { s.controller with state := .refusing }
      transmitter := { u.transmitter with sequencer := .refusal codes } }

/-- The entry to RUNNING (R170): the countdown, the punch step that waited (R155), and WAKING (R78). -/
def running (s : State) : State :=
  let u :=
    { s with
      motor :=
        { state := .running, runupEnds := none
          idleEnds :=
            if s.setup.motor.idleS = 0 then none else some (s.now + s.setup.motor.idleS * 1000000) }
      punch :=
        match s.punch.work with
        | some { step := step, ends := none, rest := rest } =>
          { s.punch with work := some { step := step, ends := some (s.now + step.time), rest := rest } }
        | _ => s.punch }
  if s.controller.state = .waking then established u else u

/-- The entry to RUNUP, and to RUNNING within it with MOTOR_READY asserted (R169). -/
def runningUp (s : State) : State :=
  let u :=
    { s with
      motor := { state := .runup, runupEnds := some (s.now + s.setup.motor.runupMs * 1000), idleEnds := none } }
  if s.sense[3].debounced then running u else u

/-- The entry to FAULT (R170, R171), and what it makes of WAKING (R78). -/
def faulted (s : State) : State :=
  let u :=
    { s with
      motor := { state := .fault, runupEnds := none, idleEnds := none }
      printer := { s.printer with unsure := true }
      events := occurs 12 (some 0) s }
  if s.controller.state = .waking then
    if s.controller.callKind = some .answered then turnedAway u else cleared u
  else u

/-- A start demand (R168). -/
def Demands (s : State) : Prop :=
  s.controller.state = .waking
  ∨ (s.printer.halts.any = false ∧ (s.printer.held ≠ none ∨ 0 < unread s (printCursor s)))
  ∨ (s.punch.halts.any = false
      ∧ (0 < s.punch.feeds ∨ s.punch.held ≠ none ∨ ∃ c, punchCursor s = some c ∧ 0 < unread s c))
  ∨ ∃ k : Fin 64, s.keyboard.states[k] = .down ∧ s.tables.keys[k] = .feed

/-- The store after a held entry has been returned: R back by one, or the entry counted lost with LAPPED once
its cell has been rewritten, or nothing where the host has moved the cursor since (R18). -/
def returned (h : Held) (s : State) : State :=
  if h.moved then s
  else if unread s h.cursor < (s.ring h.cursor.ring).len then
    s.setCursor h.cursor { s.cursor h.cursor with r := (s.cursor h.cursor).r - 1 }
  else
    { s.setCursor h.cursor { s.cursor h.cursor with lost := min 65535 ((s.cursor h.cursor).lost + 1) } with
      events := occurs 7 (some (byte h.cursor.number)) s }

/-- The printer halted: with no reason set before, an entry held and not begun is returned (R144). -/
def printerHalted (s : State) : State :=
  match s.printer.held with
  | none => s
  | some h =>
    if s.printer.halts.any then s
    else { returned h s with printer := { s.printer with held := none } }

/-- The punch halted (R161). -/
def punchHalted (s : State) : State :=
  match s.punch.held with
  | none => s
  | some h =>
    if s.punch.halts.any then s
    else { returned h s with punch := { s.punch with held := none } }

/-- A cursor detached and frozen (R8). -/
def cursorLeft (c : CursorId) (s : State) : State := s.setCursor c { s.cursor c with attached := false }

/-- A cursor attached: one more than a length behind is brought to W - length, the difference counted lost, with
LAPPED; one that is attached stays as it is (R9). -/
def cursorJoined (c : CursorId) (s : State) : State :=
  let len := (s.ring c.ring).len
  if (s.cursor c).attached then s
  else if unread s c ≤ len then s.setCursor c { s.cursor c with attached := true }
  else
    { s.setCursor c
        { r := (s.ring c.ring).w - BitVec.ofNat 32 len
          attached := true
          lost := min 65535 ((s.cursor c).lost + (unread s c - len)) } with
      events := occurs 7 (some (byte c.number)) s }

/-- A locked keyboard freed where its ring has 8 free cells or more (R119). -/
def lockTested (ring : RingId) (s : State) : State :=
  { s with keyboard := { s.keyboard with locked := s.keyboard.locked && !decide (8 ≤ freeSpace s ring) } }

/-- A change of the station mode, none to the mode in force: the entry held goes back to the cursor being left,
that cursor is detached, the other attached (R10), and the lock is tested against the ring that keystrokes now
go into (R119, R120; log 17). -/
def stationChanged (m : StationMode) (s : State) : State :=
  let a :=
    match s.printer.held with
    | none => s
    | some h => { returned h s with printer := { s.printer with held := none } }
  let exchanged :=
    match m with
    | .online => cursorJoined .printP (cursorLeft .printA a)
    | .localMode => cursorJoined .printA (cursorLeft .printP a)
  let ring : RingId :=
    match m with
    | .online => .send
    | .localMode => .loc
  if s.modes.station = m then s else lockTested ring { exchanged with modes := { s.modes with station := m } }

/-- A change of the punch source, none to the source in force: the entry held goes back to the cursor being
left, that cursor is detached, which tests the lock of a keyboard that types into its ring, the other is
attached (R10, R119; log 16), and the run count and the erase depth are 0 (R151). -/
def sourceChanged (source : PunchSource) (s : State) : State :=
  let a :=
    match s.punch.held with
    | none => s
    | some h => { returned h s with punch := { s.punch with held := none } }
  let b :=
    match s.modes.source with
    | .off => a
    | .traffic => cursorLeft .punchT a
    | .loc => if s.modes.station = .localMode then lockTested .loc (cursorLeft .punchL a) else cursorLeft .punchL a
  let exchanged :=
    match source with
    | .off => b
    | .traffic => cursorJoined .punchT b
    | .loc => cursorJoined .punchL b
  if s.modes.source = source then s
  else
    { exchanged with
      modes := { s.modes with source := source }
      punch := { exchanged.punch with runCount := 0, eraseDepth := 0 } }

/-- The keyboard locked by a refused write: one ring, and KEYBOARD_LOCKED (R118). -/
def lockedOut (s : State) : State :=
  { s with
    keyboard := { s.keyboard with locked := true }
    bell := { s.bell with count := min 3 (s.bell.count + 1) }
    events := occurs 8 none s }

/-- A keystroke of a CODE key: ignored while locked, written whole, or refused with the lock (R117, R118). -/
def typed (c : Code) (need : Option Plane) (s : State) : State :=
  if s.keyboard.locked then s
  else
    match putChar (destination s) .keyboard need c s with
    | some t => t
    | none => lockedOut s

/-- A keystroke of a RUBOUT key: one ERASE (R117, R118). -/
def rubbedOut (s : State) : State :=
  if s.keyboard.locked then s
  else if 1 ≤ freeSpace s (destination s) then
    appendEntry (destination s) (.erase (if s.modes.station = .localMode then some .keyboard else none)) s
  else lockedOut s

/-- The plane after a code (R30). -/
def planeFollowing (s : State) (p : Plane) (c : Code) : Plane :=
  match (lookup s.tables p c).fn with
  | .ltrs => .letters
  | .figs => .figures
  | .space => if s.setup.line.unshift then .letters else p
  | _ => p

/-- The rows of the table that are whole records from the host (R190). -/
def isRecord : Instr → Bool
  | .unknownKind _ _ | .lineSetup _ | .printerSetup _ | .keyboardSetup _ | .punchSetup _
  | .motorAndBellSetup _ | .ringLayout _ | .loadCodes _ | .loadKeys _ | .loadAnswerBack _
  | .loadRefusalText _ | .setMode _ | .answer | .originate | .clear | .breakSend | .hereIs | .haltSend
  | .resumeSend | .cancelSend | .printerActionStop | .printerActionResume | .punchActionStop _
  | .punchActionResume _ | .punchActionFeed _ | .motorRestart | .writeText _ | .writeCodes _
  | .readEntriesTake _ _ _ | .readEntriesPeek _ _ _ | .moveReader _ _ | .attachHostReader _
  | .detachHostReader _ | .status | .statistics | .eventSetup _ | .eventClear _ | .restart => true
  | _ => false

end Sys2Proof.Machine
end

