-- ==== Sys2Proof/Certificates/Slice0/Obligations.lean ====
section
/-! DEFINITION. The claims for the provers. -/

open Sys2Proof Sys2Proof.Machine



/-! ## The machine as a whole -/

/-- A command at the front of the queue is what the step runs, with the queue's rest. -/
def Obligations.StepRunsFrontCommand : Prop :=
  ∀ (c : Instr) (rest : List Instr) (s : State), step (s.setPending (c :: rest)) = exec c (s.setPending rest)

/-- On an empty queue the part takes its own next step, or one microsecond passes (the model's choice, log 5);
and every step answers a next state, whatever the state and whatever waits in the queue: no command of the
table stops the part. -/
def Obligations.EveryStepAnswersNext : Prop :=
  ∀ s : State,
    (s.pending = [] →
      (∀ i s', ownStep s = some (i, s') → step s = exec i s')
      ∧ (ownStep s = none → step s = .next (s.setNow (s.now + 1))))
    ∧ ∃ t, step s = .next t

/-- What each command may change of the tables and the setup values: only the command that loads a table or sets
a group of values (as a row, or as the byte that completes its record) and the RESET pin, the polarities of the
six sense inputs, which MOTOR AND BELL SETUP sets, among them; the line width may also change at the completion
of a return, when a waiting width is put in force. -/
def Obligations.TablesAndSetupsKept : Prop :=
  ∀ (c : Instr) (s t : State), exec c s = .next t →
    (∀ r, c ≠ .powerOnReset r) → (∀ b n, c ≠ .hostByteReceived b n) →
    ((∀ p, c ≠ .loadCodes p) → t.tables.codes = s.tables.codes)
    ∧ ((∀ p, c ≠ .loadKeys p) → t.tables.keys = s.tables.keys)
    ∧ ((∀ p, c ≠ .loadAnswerBack p) → t.tables.answerBack = s.tables.answerBack)
    ∧ ((∀ p, c ≠ .loadRefusalText p) → t.tables.refusal = s.tables.refusal)
    ∧ ((∀ p, c ≠ .lineSetup p) → t.setup.line = s.setup.line)
    ∧ ((∀ p, c ≠ .keyboardSetup p) → t.setup.keyboard = s.setup.keyboard)
    ∧ ((∀ p, c ≠ .punchSetup p) → t.setup.punch = s.setup.punch)
    ∧ ((∀ p, c ≠ .motorAndBellSetup p) →
        t.setup.motor = s.setup.motor ∧ ∀ k : Fin 6, t.sense[k].assertedLow = s.sense[k].assertedLow)
    ∧ ((∀ p, c ≠ .printerSetup p) → c ≠ .returnComplete → t.setup.printer = s.setup.printer)
    ∧ ((∀ p, c ≠ .printerSetup p) →
        t.setup.printer = { s.setup.printer with width := t.setup.printer.width })

/-! ## Reset -/

/-- The RESET pin: every block at its power-on value, the link speed from RATE; the halt reasons, the
debounced states and SENSE_CHANGE from the sense pins as they stand. The levels of the pins, the contacts and
the queue stay, and the clock starts again (the model's choices, logs 1 and 30). -/
def Obligations.PowerOnReset : Prop :=
  ∀ (rate : Bool) (s : State), ∃ t, exec (.powerOnReset rate) s = .next t
    ∧ t.now = 0 ∧ t.lineIn = s.lineIn ∧ t.pending = s.pending ∧ t.ticket = s.ticket
    ∧ t.store = .powerOn ∧ t.tables = .powerOn ∧ t.setup = .powerOn ∧ t.modes = .powerOn
    ∧ t.receiver = .powerOn ∧ t.transmitter = .powerOn ∧ t.controller = .powerOn
    ∧ t.keyboard = { Keyboard.powerOn with contacts := s.keyboard.contacts }
    ∧ t.printer = .powerOn s.sense[0].pin s.sense[5].pin
    ∧ t.punch = .powerOn s.sense[2].pin s.sense[5].pin
    ∧ t.motor = .powerOn ∧ t.bell = .powerOn ∧ t.link = .powerOn rate
    ∧ (∀ k : Fin 6, t.sense[k] = .powerOn s.sense[k].pin)
    ∧ ∀ e : Fin 16, t.events[e] =
        if e = 13 ∧ ∃ k : Fin 6, s.sense[k].pin = true then { EventRecord.powerOn with pending := true, count := 1 }
        else .powerOn

/-- RESTART, block by block: what it resets, what it keeps, where the line goes, and its reply. The count of the
transitions in the queue that have been seen, which stays as the queue does, is the model's own, log 37. -/
def Obligations.Restart : Prop :=
  ∀ s : State, CommandTaken s → ∃ t, Answers .restart s 0xFE [0] t
    ∧ t.now = s.now ∧ t.ticket = s.ticket ∧ t.lineIn = s.lineIn ∧ t.pending = s.pending
    ∧ t.tables = s.tables ∧ t.setup = s.setup ∧ t.modes = s.modes ∧ t.sense = s.sense
    ∧ t.store.cells = [] ∧ t.store.sendPlane = .letters ∧ t.store.locPlane = .letters
    ∧ (∀ i, t.ring i = { s.ring i with w := 0, place := (s.ring i).base, filled := false })
    ∧ (∀ c, t.cursor c = { s.cursor c with r := 0, lost := 0 })
    ∧ (let line : LineState :=
        match s.controller.state with
        | .waking => .clearing
        | .established => .clearing
        | .refusing => .clearing
        | _ => .free
       t.controller =
        { state := line, originate := false, originateTimer := .stopped, confirmTimer := none,
          clearTimer := if line = .clearing then some (s.now + s.setup.line.clearSendMs * 1000) else none,
          callKind := none, markerOpen := false }
       ∧ t.transmitter =
        { Transmitter.powerOn with state := if line = .clearing then .clearSpacing else .idle })
    ∧ t.receiver = { Receiver.powerOn with ahead := s.receiver.ahead }
    ∧ t.keyboard =
        { Keyboard.powerOn with contacts := s.keyboard.contacts, lastRead := s.keyboard.lastRead }
    ∧ t.printer =
        { Printer.powerOn s.printer.halts.paper s.printer.halts.cover with wheelAt := s.printer.wheelAt }
    ∧ t.punch = .powerOn s.punch.halts.tapeOut s.punch.halts.cover
    ∧ t.motor = .powerOn ∧ t.bell = .powerOn
    ∧ ∀ e : Fin 16, t.events[e] =
        if e = 13 ∧ ∃ k : Fin 6, s.sense[k].debounced ≠ s.sense[k].reported then
          { s.events[e] with pending := true, count := 1 }
        else { s.events[e] with pending := false, count := 0 }

/-- The machine right after reset meets every invariant of the other claims. The levels of the pins and the
contacts in it are the model's choice, log 1. -/
def Obligations.ResetMeetsInvariants : Prop :=
  let s := State.reset
  StoreOk s ∧ CursorsBound s ∧ UnreadRetained s ∧ MarkerFollowsLine s ∧ ClearSpacingOk s ∧ CallTimersOk s
  ∧ SequencerFollowsLine s ∧ AttachedByMode s ∧ HeldThrough s ∧ HaltedHoldNothing s ∧ MotorTimersOk s
  ∧ CountsOk s ∧ SetupInRange s ∧ ColumnOnLine s ∧ EventsOk s ∧ SenseTold s ∧ LinkServed s ∧ OneReplyOwed s

/-! ## The host link -/

/-- A byte that completes no record: kind, length, payload, or discarded while resynchronizing, the gap timed
afresh from its stop bit. A framing fault, the length byte above 64 that is one too, and the expiry of the gap
after a byte, which comes before a byte whose start bit falls later than 20,000 us after the stop bit before it,
and not before one whose start bit falls within them. That the gap has exceeded 20,000 us at the next whole
microsecond is the model's reading, log 13; a byte's command carries the end of its stop bit, log 35. -/
def Obligations.HostBytes : Prop :=
  let late (time : Nat) (s : State) : Prop :=
    let rate := if s.link.fast then 38400 else 9600
    (s.link.resync = true ∨ s.link.buffer ≠ .empty)
    ∧ ∃ g, s.link.gapFrom = some g ∧ (g + 20000) * rate + 10 * 1000000 < max s.now time * rate
  (∀ (b : Byte) (time : Nat) (s v : State), late time s → exec .interByteGapExpiry s = .next v →
     exec (.hostByteReceived b time) s = exec (.hostByteReceived b time) v
     ∧ exec (.hostFramingFault time) s = exec (.hostFramingFault time) v)
  ∧ (∀ (b : Byte) (time : Nat) (s : State), ¬ late time s →
     let u := s.upTo time
     let put (x : Buffer) := u.setLink { s.link with buffer := x, gapFrom := some u.now }
     (s.link.resync = true → exec (.hostByteReceived b time) s = .next (chooseOutgoing (put s.link.buffer)))
     ∧ (s.link.resync = false →
         (s.link.buffer = .empty → exec (.hostByteReceived b time) s = .next (chooseOutgoing (put (.kind b))))
         ∧ (∀ k, s.link.buffer = .kind k → 1 ≤ b.toNat → b.toNat ≤ 64 →
             exec (.hostByteReceived b time) s = .next (chooseOutgoing (put (.payload k b.toNat []))))
         ∧ (∀ k n got, s.link.buffer = .payload k n got → got.length + 1 < n →
             exec (.hostByteReceived b time) s = .next (chooseOutgoing (put (.payload k n (got ++ [b])))))))
  ∧ (∀ (time : Nat) (s : State), ¬ late time s →
      let u := s.upTo time
      (s.link.resync = false →
        exec (.hostFramingFault time) s
          = .next (chooseOutgoing
              ((u.setEvents (occurs 15 (some 0) s)).setLink
                { s.link with buffer := .empty, resync := true, gapFrom := some u.now }))
        ∧ ∀ (k b : Byte), s.link.buffer = .kind k → 64 < b.toNat →
            exec (.hostByteReceived b time) s = exec (.hostFramingFault time) s)
      ∧ (s.link.resync = true →
          exec (.hostFramingFault time) s
            = .next (chooseOutgoing (u.setLink { s.link with gapFrom := some u.now }))))
  ∧ ∀ (g : Nat) (s : State), s.link.gapFrom = some g →
      let v := s.upTo (g + 20001)
      (s.link.resync = true →
        exec .interByteGapExpiry s
          = .next (chooseOutgoing (v.setLink { s.link with resync := false, gapFrom := none })))
      ∧ (s.link.resync = false → s.link.buffer ≠ .empty →
          exec .interByteGapExpiry s
            = .next (chooseOutgoing
                ((v.setEvents (occurs 15 (some 0) s)).setLink
                  { s.link with buffer := .empty, gapFrom := none })))

/-- The bytes of a record, received one by one from an empty assembly buffer, each stamped with the end of its
own stop bit, make its command: the record is dispatched once, whole, at its last byte. No byte but the first
may come late: the start bit of each, ten bit times before its stamp, falls within 20,000 us of the stamp before
it. That the last byte is the dispatch is the model's reading, log 9; that the stamp is the stop bit's end, log
35. -/
def Obligations.BytesMakeTheRecord : Prop :=
  ∀ (k : Byte) (p : List Byte) (times : List Nat) (last : Nat) (s : State),
    let rate := if s.link.fast then 38400 else 9600
    p.length ≤ 64 → s.link.resync = false → s.link.buffer = .empty → LinkServed s →
    times.length = p.length + 2 → times.getLast? = some last →
    (∀ (i a b : Nat), times[i]? = some a → times[i + 1]? = some b →
      a ≤ b ∧ b * rate ≤ (a + 20000) * rate + 10 * 1000000) →
    Sys2Proof.core.run (p.length + 2)
        (s.setPending (List.zipWith Instr.hostByteReceived (frameRecord k p) times))
      = .next (chooseOutgoing (takeRecord (dispatch k p) ((s.setPending []).upTo last)))

/-- The dispatch of a record does what the row of its command does. That a row stands for its whole record is
the model's choice, log 8. -/
def Obligations.DispatchIsTheRow : Prop :=
  ∀ (s : State) (p : List Byte),
    let run (k : Byte) (p : List Byte) := finish (hostRecord p.length (dispatch k p) s)
    run 0x10 p = exec (.lineSetup p) s ∧ run 0x11 p = exec (.printerSetup p) s
    ∧ run 0x12 p = exec (.keyboardSetup p) s ∧ run 0x13 p = exec (.punchSetup p) s
    ∧ run 0x14 p = exec (.motorAndBellSetup p) s ∧ run 0x18 p = exec (.ringLayout p) s
    ∧ run 0x20 p = exec (.loadCodes p) s ∧ run 0x21 p = exec (.loadKeys p) s
    ∧ run 0x22 p = exec (.loadAnswerBack p) s ∧ run 0x23 p = exec (.loadRefusalText p) s
    ∧ run 0x30 p = exec (.setMode p) s
    ∧ run 0x31 [0] = exec .answer s ∧ run 0x31 [1] = exec .originate s ∧ run 0x31 [2] = exec .clear s
    ∧ run 0x31 [3] = exec .breakSend s ∧ run 0x31 [4] = exec .hereIs s ∧ run 0x31 [5] = exec .haltSend s
    ∧ run 0x31 [6] = exec .resumeSend s ∧ run 0x31 [7] = exec .cancelSend s
    ∧ run 0x32 [0] = exec .printerActionStop s ∧ run 0x32 [1] = exec .printerActionResume s
    ∧ (∀ n, run 0x33 [0, n] = exec (.punchActionStop n) s ∧ run 0x33 [1, n] = exec (.punchActionResume n) s
        ∧ run 0x33 [2, n] = exec (.punchActionFeed n) s)
    ∧ run 0x34 [] = exec .motorRestart s
    ∧ run 0x40 p = exec (.writeText p) s ∧ run 0x41 p = exec (.writeCodes p) s
    ∧ (∀ (c n : Byte) (h l : Byte), run 0x48 [c, 0, h, l, n] = exec (.readEntriesTake c (h ++ l) n) s
        ∧ run 0x48 [c, 1, h, l, n] = exec (.readEntriesPeek c (h ++ l) n) s
        ∧ run 0x49 [c, h, l] = exec (.moveReader c (h ++ l)) s)
    ∧ (∀ c, run 0x4A [c, 1] = exec (.attachHostReader c) s ∧ run 0x4A [c, 0] = exec (.detachHostReader c) s)
    ∧ run 0x50 [] = exec .status s ∧ run 0x51 [] = exec .statistics s
    ∧ run 0x60 p = exec (.eventSetup p) s ∧ run 0x61 p = exec (.eventClear p) s
    ∧ run 0x7E [] = exec .restart s
    ∧ ∀ k, k ∉ commandKinds → run k p = exec (.unknownKind k p) s

/-- A record that completes while a reply is owed is discarded, whichever command it carries: nothing changes
but the assembly buffer and LINK_ERROR with data OVERRUN. A record of a kind that is no command is answered with
kind 80h, status UNKNOWN and the kind received, whatever its length and payload. That a row stands for its whole
record is the model's choice, log 8. -/
def Obligations.OverrunAndUnknownKind : Prop :=
  (∀ s : State, replyOwed s = true → s.link.resync = false →
     exec .recordOverrun s
       = .next (chooseOutgoing
           ((s.setEvents (occurs 15 (some 1) s)).setLink { s.link with buffer := .empty, gapFrom := none }))
     ∧ ∀ c : Instr, isRecord c = true → c.wellFormed = true → exec c s = exec .recordOverrun s)
  ∧ ∀ (k : Byte) (p : List Byte) (s : State), CommandTaken s → k ∉ commandKinds → p.length ≤ 64 →
      Answers (.unknownKind k p) s 0x80 [6, k] s

/-- The end of an outgoing record frees the link, and the choice follows: the waiting reply, else the event that
the table offers, else nothing. One choice at the end of the step and the whole microseconds of a byte are the
model's, logs 7 and 13. -/
def Obligations.RecordEndChoosesNext : Prop :=
  ∀ (o : Outgoing) (s : State), s.link.out = some o →
    let v := (s.upTo (o.start + linkTime s.link.fast o.bytes.length)).setLink { s.link with out := none }
    (∀ k p, s.link.waiting = some (.record k p) →
      exec .outgoingRecordEnd s
        = .next (v.setLink
            { s.link with
              waiting := none
              out := some { bytes := frameRecord k p, start := v.now, reply := true } }))
    ∧ (s.link.waiting = some .status →
        exec .outgoingRecordEnd s
          = .next ((v.setLink
              { s.link with
                waiting := none
                out := some { bytes := frameRecord 0xD0 (0 :: statusFields v), start := v.now, reply := true } }).setSense
              (s.sense.map fun i => { i with reported := i.debounced })))
    ∧ (s.link.waiting = none → offered s = none → exec .outgoingRecordEnd s = .next v)
    ∧ (∀ e, s.link.waiting = none → offered s = some e → exec .outgoingRecordEnd s = .next (beginNotice e v))

/-- The event table's offer and the notice that is begun for it on a free link. SENSE_CHANGE takes its data
then, and no STATUS reply writes it: the model's reading, log 21. -/
def Obligations.NoticeForLowestPriority : Prop :=
  ∀ s : State, EventsOk s →
    let eligible (e : Fin 16) : Prop := s.events[e].pending = true ∧ s.events[e].enabled = true
    (offered s = none ↔ ∀ e, ¬ eligible e)
    ∧ (∀ e, offered s = some e ↔
        eligible e ∧ ∀ f, eligible f →
          s.events[e].priority < s.events[f].priority
          ∨ (s.events[e].priority = s.events[f].priority ∧ e ≤ f))
    ∧ ∀ e, s.link.out = none → s.link.waiting = none → offered s = some e →
        chooseOutgoing s =
          ((s.setLink
            { s.link with
              out := some
                { bytes :=
                    frameRecord 0xFF (byte e.val :: byte s.events[e].count ::
                      (if e = 13 then [senseSet s]
                       else if e = 2 ∨ e = 6 ∨ e = 7 ∨ e = 10 ∨ e = 12 ∨ e = 15 then [s.events[e].data]
                       else []))
                  start := s.now
                  reply := false } }).setEvents
            (s.events.set e
              { s.events[e] with
                pending := false, count := 0, data := if e = 13 then senseSet s else s.events[e].data })).setSense
            (if e = 13 then s.sense.map fun i => { i with reported := i.debounced } else s.sense)


/-! ## Setup, load and mode commands -/

/-- LINE SETUP: the state check, the value check, each value to the nearer end of its range, the clear
threshold above the break threshold; all twelve in force at once and in the reply. -/
def Obligations.LineSetupCommand : Prop :=
  ∀ (s : State) (u1 u0 f o order unshift bu c1 c0 cf1 cf0 og k1 k0 cs1 cs0 w : Byte), CommandTaken s →
    let cmd := Instr.lineSetup [u1, u0, f, o, order, unshift, bu, c1, c0, cf1, cf0, og, k1, k0, cs1, cs0, w]
    let u := nearest 5000 40000 (num2 u1 u0)
    let b := nearest 8 255 bu.toNat
    let c := nearest 200 10000 (num2 c1 c0)
    let v : LineSetup :=
      { unitLength := u, stopFactor := nearest 100 200 f.toNat, orientation := nearest 20 80 o.toNat,
        order := if order = 1 then .reversed else .normal, unshift := unshift == 1, breakUnits := b,
        clearMs := if b * u < c * 1000 then c else b * u / 1000 + 1,
        confirmMs := nearest 20 1000 (num2 cf1 cf0), originateS := nearest 1 120 og.toNat,
        breakMs := nearest 100 2000 (num2 k1 k0), clearSendMs := nearest 500 10000 (num2 cs1 cs0),
        warning := nearest 10 50 w.toNat }
    let same := v.unitLength = num2 u1 u0 ∧ v.stopFactor = f.toNat ∧ v.orientation = o.toNat
      ∧ v.breakUnits = bu.toNat ∧ v.clearMs = num2 c1 c0 ∧ v.confirmMs = num2 cf1 cf0
      ∧ v.originateS = og.toNat ∧ v.breakMs = num2 k1 k0 ∧ v.clearSendMs = num2 cs1 cs0
      ∧ v.warning = w.toNat
    (s.controller.state ≠ .free → Refuses cmd s 0x90 3)
    ∧ (s.controller.state = .free → (1 < order.toNat ∨ 1 < unshift.toNat) → Refuses cmd s 0x90 7)
    ∧ (s.controller.state = .free → order.toNat ≤ 1 → unshift.toNat ≤ 1 →
        Answers cmd s 0x90
          ((if same then 0 else 1) :: (be2 v.unitLength ++ [byte v.stopFactor, byte v.orientation, order, unshift,
            byte v.breakUnits] ++ be2 v.clearMs ++ be2 v.confirmMs ++ [byte v.originateS] ++ be2 v.breakMs
            ++ be2 v.clearSendMs ++ [byte v.warning]))
          { s with setup := { s.setup with line := v } })

/-- PRINTER SETUP: the values as accepted; the width is put in force at once when the column is at or below
it, and otherwise waits for the next return while the width in force stays. That it waits too below the column
that a strike or an advance in flight leads to is the model's choice, log 12; that the margin bell column is
clamped against the width as accepted, log 36. -/
def Obligations.PrinterSetupCommand : Prop :=
  ∀ (s : State) (w m auto feeds : Byte), CommandTaken s →
    let cmd := Instr.printerSetup [w, m, auto, feeds]
    let width := nearest 40 80 w.toNat
    let v : PrinterSetup :=
      { width := width, margin := nearest 0 width m.toNat, autoNewline := auto == 1,
        endFeeds := nearest 0 15 feeds.toNat }
    let reached := s.printer.column
      + (match s.printer.hammer with
        | some { ends := _, atWidth := false } => 1
        | _ => 0)
      + (match s.printer.carriage with
        | .advancing _ => 1
        | _ => 0)
    let same := width = w.toNat ∧ v.margin = m.toNat ∧ v.endFeeds = feeds.toNat
    let reply : List Byte := [if same then 0 else 1, byte width, byte v.margin, auto, byte v.endFeeds]
    (1 < auto.toNat → Refuses cmd s 0x91 7)
    ∧ (auto.toNat ≤ 1 → reached ≤ width →
        Answers cmd s 0x91 reply
          { s with setup := { s.setup with printer := v }, printer := { s.printer with waitingWidth := none } })
    ∧ (auto.toNat ≤ 1 → width < reached →
        Answers cmd s 0x91 reply
          { s with
            setup := { s.setup with printer := { v with width := s.setup.printer.width } }
            printer := { s.printer with waitingWidth := some width } })

/-- KEYBOARD SETUP and PUNCH SETUP: each value to the nearer end of its range, in force at once and in the
reply; nothing else changes, a running delay or count neither. -/
def Obligations.KeyboardAndPunchSetup : Prop :=
  ∀ (s : State) (d l1 l0 p1 p0 l t : Byte), CommandTaken s →
    let k : KeyboardSetup :=
      { debounce := nearest 1 8 d.toNat, delayMs := nearest 100 2000 (num2 l1 l0),
        periodMs := nearest 50 500 (num2 p1 p0) }
    let q : PunchSetup := { leader := nearest 0 31 l.toNat, trailer := nearest 0 31 t.toNat }
    Answers (.keyboardSetup [d, l1, l0, p1, p0]) s 0x92
      ((if k.debounce = d.toNat ∧ k.delayMs = num2 l1 l0 ∧ k.periodMs = num2 p1 p0 then 0 else 1)
        :: byte k.debounce :: (be2 k.delayMs ++ be2 k.periodMs))
      { s with setup := { s.setup with keyboard := k } }
    ∧ Answers (.punchSetup [l, t]) s 0x93
        [if q.leader = l.toNat ∧ q.trailer = t.toNat then 0 else 1, byte q.leader, byte q.trailer]
        { s with setup := { s.setup with punch := q } }

/-- MOTOR AND BELL SETUP: the values, the polarities with the stability timing of each changed input, and the
load of the idle countdown while RUNNING. -/
def Obligations.MotorAndBellSetup : Prop :=
  ∀ (s : State) (r1 r0 i1 i0 t1 t0 p0 p1 p2 p3 p4 p5 : Byte), CommandTaken s →
    let cmd := Instr.motorAndBellSetup [r1, r0, i1, i0, t1, t0, p0, p1, p2, p3, p4, p5]
    let v : MotorSetup :=
      { runupMs := nearest 200 5000 (num2 r1 r0), idleS := nearest 0 600 (num2 i1 i0),
        tone := nearest 400 2000 (num2 t1 t0) }
    let low := #v[p0, p1, p2, p3, p4, p5]
    let same := v.runupMs = num2 r1 r0 ∧ v.idleS = num2 i1 i0 ∧ v.tone = num2 t1 t0
    ((∃ k : Fin 6, 1 < low[k].toNat) → Refuses cmd s 0x94 7)
    ∧ ((∀ k : Fin 6, low[k].toNat ≤ 1) → ∃ t,
        Answers cmd s 0x94
          ((if same then 0 else 1) :: (be2 v.runupMs ++ be2 v.idleS ++ be2 v.tone ++ low.toList)) t
        ∧ t = { s with setup := t.setup, sense := t.sense, motor := t.motor }
        ∧ t.setup = { s.setup with motor := v }
        ∧ t.motor = { s.motor with
            idleEnds :=
              if s.motor.state = .running then
                (if v.idleS = 0 then none else some (s.now + v.idleS * 1000000))
              else s.motor.idleEnds }
        ∧ ∀ k : Fin 6, t.sense[k] =
            if s.sense[k].assertedLow = (low[k] == 1) then s.sense[k]
            else { s.sense[k] with assertedLow := !s.sense[k].assertedLow, since := s.now })

/-- RING LAYOUT: the state check, the layout check, the three descriptors, and the ring reset. -/
def Obligations.RingLayout : Prop :=
  ∀ (s : State) (b1 b0 l1 l0 sb1 sb0 sl1 sl0 lb1 lb0 ll1 ll0 : Byte), CommandTaken s →
    let cmd := Instr.ringLayout [b1, b0, l1, l0, sb1, sb0, sl1, sl0, lb1, lb0, ll1, ll0]
    let base : RingId → Nat
      | .traffic => num2 b1 b0
      | .send => num2 sb1 sb0
      | .loc => num2 lb1 lb0
    let len : RingId → Nat
      | .traffic => num2 l1 l0
      | .send => num2 sl1 sl0
      | .loc => num2 ll1 ll0
    let inRing (i : RingId) (cell : Nat) : Prop := base i ≤ cell ∧ cell < base i + len i
    let ready := s.controller.state = .free ∧ s.printer.held = none ∧ s.punch.held = none
      ∧ s.transmitter.state = .idle
    let layout := (∀ i, 16 ≤ len i ∧ len i ≤ 2032 ∧ base i + len i ≤ 2048)
      ∧ ∀ i j cell, i ≠ j → inRing i cell → ¬ inRing j cell
    (¬ ready → Refuses cmd s 0x98 3)
    ∧ (ready → ¬ layout → Refuses cmd s 0x98 4)
    ∧ (ready → layout → ∃ t, Answers cmd s 0x98 [0] t
        ∧ t = { s with store := t.store, controller := t.controller, keyboard := t.keyboard }
        ∧ (∀ i, t.ring i = { base := base i, len := len i, w := 0, place := base i, filled := false })
        ∧ (∀ c, t.cursor c = { s.cursor c with r := 0, lost := 0 })
        ∧ t.store.cells = [] ∧ t.store.sendPlane = .letters ∧ t.store.locPlane = .letters
        ∧ t.controller = { s.controller with markerOpen := false }
        ∧ t.keyboard = { s.keyboard with locked := false })

/-- LOAD CODES: the whole check, then every entry at its index; what the table held elsewhere stays. The rule
gives a start index of 0 to 63 only; that one above is refused with RANGE even with no entry is the model's
choice, log 14. -/
def Obligations.LoadCodes : Prop :=
  ∀ (s : State) (start : Byte) (es : List (Byte × Byte × Byte)), CommandTaken s → es.length ≤ 21 →
    let cmd := Instr.loadCodes (start :: es.flatMap fun e => [e.1, e.2.1, e.2.2])
    let fns : List CodeFn := [.null, .printing, .space, .cr, .lf, .ltrs, .figs, .bell, .wru]
    let bad := 63 < start.toNat ∨ 20 < es.length ∨ 64 < start.toNat + es.length
      ∨ ∃ e ∈ es, 8 < e.1.toNat ∨ 63 < e.2.1.toNat
    (bad → Refuses cmd s 0xA0 7)
    ∧ (¬ bad → ∃ t, Answers cmd s 0xA0 [0] t
        ∧ t = { s with tables := { s.tables with codes := t.tables.codes } }
        ∧ ∀ i : Fin 64,
            match if start.toNat ≤ i.val then es[i.val - start.toNat]? else none with
            | some e =>
              fns[e.1.toNat]? = some t.tables.codes[i].fn ∧ t.tables.codes[i].glyph.val = e.2.1.toNat
              ∧ t.tables.codes[i].host = e.2.2
            | none => t.tables.codes[i] = s.tables.codes[i])

/-- LOAD KEYS: the whole check, then every entry at its position. A key held down stays as it is; one that no
longer is a FEED key feeds no more (the model's reading, log 11); one reloaded from CODE to another kind can no
longer be repeated, RUBOUT though it may be, until its release or a load of CODE (log 34). The repeat condition
is looked at afresh, with a key being released still held (log 10). That a start index of 64 is
refused with RANGE even with no entry is the model's choice, log 14. -/
def Obligations.LoadKeys : Prop :=
  ∀ (s : State) (start : Byte) (es : List (Byte × Byte)), CommandTaken s → es.length ≤ 31 →
    let cmd := Instr.loadKeys (start :: es.flatMap fun e => [e.1, e.2])
    let others : List KeyEntry := [.unused, .unused, .hereIs, .repeatKey, .rubout, .breakKey, .feed, .mode]
    let isCode (x : KeyEntry) : Prop := ∃ code plane, x = .code code plane
    let bad := 63 < start.toNat ∨ 64 < start.toNat + es.length
      ∨ ∃ e ∈ es, 7 < e.1.toNat ∨ (e.1 = 1 ∧ 95 < e.2.toNat) ∨ (e.1 ≠ 1 ∧ e.2 ≠ 0)
    (bad → Refuses cmd s 0xA1 7)
    ∧ (¬ bad → ∃ t, Answers cmd s 0xA1 [0] t
        ∧ t = { s with
            tables := { s.tables with keys := t.tables.keys }
            keyboard :=
              { s.keyboard with
                feeding := t.keyboard.feeding, barred := t.keyboard.barred,
                repeating := t.keyboard.repeating } }
        ∧ (∀ i : Fin 64,
            match if start.toNat ≤ i.val then es[i.val - start.toNat]? else none with
            | some e =>
              if e.1 = 1 then
                ∃ code plane, t.tables.keys[i] = .code code plane
                  ∧ e.2.toNat = code.toNat +
                      32 * (match plane with
                        | some .letters => 0
                        | some .figures => 1
                        | none => 2)
              else some t.tables.keys[i] = others[e.1.toNat]?
            | none => t.tables.keys[i] = s.tables.keys[i])
        ∧ (∀ i : Fin 64, t.keyboard.feeding[i] = (s.keyboard.feeding[i] && t.tables.keys[i] == .feed))
        ∧ (∀ i : Fin 64,
            let reloaded := isCode s.tables.keys[i] ∧ s.keyboard.states[i].pressed = true
            (isCode t.tables.keys[i] → t.keyboard.barred[i] = false)
            ∧ (¬ isCode t.tables.keys[i] → reloaded → t.keyboard.barred[i] = true)
            ∧ (¬ isCode t.tables.keys[i] → ¬ reloaded → t.keyboard.barred[i] = s.keyboard.barred[i]))
        ∧ (repeatKeyNow t = none → t.keyboard.repeating = none)
        ∧ ∀ k, repeatKeyNow t = some k →
            t.keyboard.repeating =
              if s.keyboard.repeating.map Repeating.key = some k then s.keyboard.repeating
              else some { key := k, ends := s.now + s.setup.keyboard.delayMs * 1000 })

/-- LOAD ANSWER-BACK and LOAD REFUSAL TEXT: LENGTH above 20, RANGE for a byte above 31, STATE while the
sequencer holds a request or a sequence; otherwise the record is replaced whole. -/
def Obligations.LoadRecords : Prop :=
  ∀ (s : State) (p : List Byte), CommandTaken s → p.length ≤ 64 →
    let codes : List Code := p.map fun b => b.setWidth 5
    let high := ∃ b ∈ p, 31 < b.toNat
    (20 < p.length → Refuses (.loadAnswerBack p) s 0xA2 5 ∧ Refuses (.loadRefusalText p) s 0xA3 5)
    ∧ (p.length ≤ 20 → high → Refuses (.loadAnswerBack p) s 0xA2 7 ∧ Refuses (.loadRefusalText p) s 0xA3 7)
    ∧ (p.length ≤ 20 → ¬ high → s.transmitter.sequencer ≠ .empty →
        Refuses (.loadAnswerBack p) s 0xA2 3 ∧ Refuses (.loadRefusalText p) s 0xA3 3)
    ∧ (p.length ≤ 20 → ¬ high → s.transmitter.sequencer = .empty →
        Answers (.loadAnswerBack p) s 0xA2 [0] { s with tables := { s.tables with answerBack := codes } }
        ∧ Answers (.loadRefusalText p) s 0xA3 [0] { s with tables := { s.tables with refusal := codes } })

/-- A payload whose length is not one the kind allows is refused with LENGTH, and an action, operation or
attachment byte that names none is refused with RANGE; nothing changes. -/
def Obligations.MalformedRecordRefused : Prop :=
  ∀ (s : State) (p : List Byte), CommandTaken s → p.length ≤ 64 →
    let refused (k : Byte) (p : List Byte) (status : Byte) : Prop :=
      finish (hostRecord p.length (dispatch k p) s)
        = .next (s.setLink (linkAfter (k + 0x80) [status] s))
    (p.length ≠ 17 → Refuses (.lineSetup p) s 0x90 5)
    ∧ (p.length ≠ 4 → Refuses (.printerSetup p) s 0x91 5)
    ∧ (p.length ≠ 5 → Refuses (.keyboardSetup p) s 0x92 5)
    ∧ (p.length ≠ 2 → Refuses (.punchSetup p) s 0x93 5)
    ∧ (p.length ≠ 12 → Refuses (.motorAndBellSetup p) s 0x94 5 ∧ Refuses (.ringLayout p) s 0x98 5)
    ∧ (p.length % 3 ≠ 1 → Refuses (.loadCodes p) s 0xA0 5)
    ∧ (p.length % 2 ≠ 1 → Refuses (.loadKeys p) s 0xA1 5)
    ∧ (p.length ≠ 7 → Refuses (.setMode p) s 0xB0 5)
    ∧ ((p.length = 0 ∨ 61 < p.length) → Refuses (.writeText p) s 0xC0 5 ∧ Refuses (.writeCodes p) s 0xC1 5)
    ∧ ((p.length % 3 ≠ 0 ∨ 48 < p.length) → Refuses (.eventSetup p) s 0xE0 5)
    ∧ (16 < p.length → Refuses (.eventClear p) s 0xE1 5)
    ∧ (p.length ≠ 1 → refused 0x31 p 5 ∧ refused 0x32 p 5)
    ∧ (p.length ≠ 2 → refused 0x33 p 5 ∧ refused 0x4A p 5)
    ∧ (p.length ≠ 5 → refused 0x48 p 5)
    ∧ (p.length ≠ 3 → refused 0x49 p 5)
    ∧ (p ≠ [] → refused 0x34 p 5 ∧ refused 0x50 p 5 ∧ refused 0x51 p 5 ∧ refused 0x7E p 5)
    ∧ ∀ a b c d e : Byte,
        (7 < a.toNat → refused 0x31 [a] 7)
        ∧ (1 < a.toNat → refused 0x32 [a] 7 ∧ refused 0x4A [b, a] 7 ∧ refused 0x48 [b, a, c, d, e] 7)
        ∧ (2 < a.toNat → refused 0x33 [a, b] 7)

/-- SET MODE: one value outside those listed refuses it; otherwise the seven flags take effect together. A
station mode or a source that is not the one in force is a change of it, stated whole: the engine's held entry
goes back first, then the old cursor is detached and the new one attached. The station before the source is the
model's choice, log 32; at which of these a lock is tested, and against which ring, is its reading, logs 16 and
17. -/
def Obligations.SetMode : Prop :=
  ∀ (s : State) (a e f d st src fil : Byte), CommandTaken s →
    let cmd := Instr.setMode [a, e, f, d, st, src, fil]
    let bad := 1 < a.toNat ∨ 1 < e.toNat ∨ 1 < f.toNat ∨ 1 < d.toNat ∨ 1 < st.toNat ∨ 2 < src.toNat
      ∨ 1 < fil.toNat
    let station : StationMode := if st = 1 then .localMode else .online
    let source : PunchSource := if src = 1 then .traffic else if src = 2 then .loc else .off
    let flagged :=
      { s with modes :=
          { s.modes with
            answering := a == 1, answerOnEstablish := e == 1, forcesOnline := f == 1, divert := d == 1,
            farOnly := fil == 1 } }
    let t := sourceChanged source (stationChanged station flagged)
    (bad → Refuses cmd s 0xB0 7)
    ∧ (¬ bad → Answers cmd s 0xB0 [0] t
        ∧ t.modes = { flagged.modes with station := station, source := source }
        ∧ (AttachedByMode s → AttachedByMode t)
        ∧ (HeldThrough s → HeldThrough t ∧ t.cursor .hostT = s.cursor .hostT
            ∧ t.cursor .hostL = s.cursor .hostL ∧ t.cursor .xmit = s.cursor .xmit)
        ∧ (s.keyboard.locked = true → station ≠ s.modes.station → source = s.modes.source →
            (t.keyboard.locked = false ↔ 8 ≤ freeSpace t (destination t))))


/-! ## LINE ACTION, PRINTER ACTION, PUNCH ACTION -/

/-- ORIGINATE is taken in FREE alone: the flag, the timer, the state, and its reply. CLEAR by the line state:
refused in FREE and CLEARING, the attempt abandoned in ORIGINATING, and CLEARING entered from every other state:
at once, unless a character is in flight, which first goes to its end, and with it a sequence in progress; a
request is discarded at once. -/
def Obligations.OriginateAndClear : Prop :=
  ∀ s : State, CommandTaken s →
    (s.controller.state ≠ .free → Refuses .originate s 0xB1 3)
    ∧ (s.controller.state = .free →
        Answers .originate s 0xB1 [0, 1, haltValue s.transmitter.halt, 0, 0]
          { s with
            controller :=
              { s.controller with
                state := .originating
                originate := true
                originateTimer := .running (s.now + s.setup.line.originateS * 1000000) } })
    ∧ ((s.controller.state = .free ∨ s.controller.state = .clearing) → Refuses .clear s 0xB1 3)
    ∧ (s.controller.state = .originating →
        Answers .clear s 0xB1 [0, 0, haltValue s.transmitter.halt, 0, 0]
          { s with
            controller :=
              { s.controller with
                state := .free, originate := false, originateTimer := .stopped, confirmTimer := none,
                clearTimer := none, callKind := none }
            receiver := { s.receiver with run := none }
            transmitter := { s.transmitter with sequencer := .empty, breakPending := false }
            events := occurs 2 (some 2) s })
    ∧ (s.controller.state ≠ .free → s.controller.state ≠ .clearing → s.controller.state ≠ .originating →
        let pending := s.controller.state = .callPending
        Answers .clear s 0xB1 [0, 7, haltValue s.transmitter.halt, 0, 0]
          { s with
            controller :=
              { s.controller with
                state := .clearing
                originate := if pending then false else s.controller.originate
                originateTimer := if pending then .stopped else s.controller.originateTimer
                confirmTimer := if pending then none else s.controller.confirmTimer
                clearTimer :=
                  match s.transmitter.state with
                  | .sending _ _ _ => s.controller.clearTimer
                  | .clearSpacing => s.controller.clearTimer
                  | _ => some (s.now + s.setup.line.clearSendMs * 1000) }
            receiver := { s.receiver with run := none }
            transmitter :=
              { s.transmitter with
                state :=
                  match s.transmitter.state with
                  | .sending start code keying => .sending start code keying
                  | _ => .clearSpacing
                sequencer :=
                  match s.transmitter.state, s.transmitter.sequencer with
                  | .sending _ _ _, .answerBack codes wru => .answerBack codes wru
                  | .sending _ _ _, .refusal codes => .refusal codes
                  | _, _ => .empty
                breakPending := false } })

/-- The entry to WAKING or REFUSING of a call, whole: the mode forced, the CONNECT written, the planes, and the
line state it ends in, by the acceptance, the motor and the records. That a break threshold already passed is
noted so at once is the model's reading, log 23; against which ring a lock is tested at a change of mode, log
17. -/
def Obligations.CallEntry : Prop :=
  ∀ (kind : CallKind) (accepted : Bool) (s : State), s.controller.markerOpen = false →
    let s1 := if kind = .answered ∧ s.modes.forcesOnline = true then stationChanged .online s else s
    let u := writeTraffic .connect s1
    let codes := s.tables.answerBack ++ s.tables.refusal
    let refused := accepted = false ∨ (s.motor.state = .fault ∧ kind = .answered)
    let line : LineState :=
      if refused then (if codes = [] then .clearing else .refusing)
      else match s.motor.state with
        | .running => .established
        | .fault => .clearing
        | _ => .waking
    let asks := line = .established ∧ kind = .answered ∧ s.modes.answerOnEstablish = true
      ∧ s.tables.answerBack ≠ []
    enterCall kind accepted s =
      { u with
        controller :=
          { s.controller with
            state := line, callKind := some kind, markerOpen := true
            clearTimer :=
              match line, s.transmitter.state with
              | .clearing, .idle => some (s.now + s.setup.line.clearSendMs * 1000)
              | .clearing, .breaking _ => some (s.now + s.setup.line.clearSendMs * 1000)
              | _, _ => s.controller.clearTimer }
        receiver :=
          { s.receiver with
            linePlane := .letters
            run :=
              if line = .clearing then none
              else if line = .established then
                s.receiver.run.map fun r =>
                  { r with breakDone :=
                      r.breakDone || decide (r.start + s.setup.line.breakUnits * s.setup.line.unitLength < s.now) }
              else s.receiver.run }
        transmitter :=
          { s.transmitter with
            streamPlane := .letters
            state :=
              match line, s.transmitter.state with
              | .clearing, .idle => .clearSpacing
              | .clearing, .breaking _ => .clearSpacing
              | _, tx => tx
            sequencer :=
              if line = .clearing then endedSequencer s
              else if line = .refusing then .refusal codes
              else if asks ∧ s.transmitter.sequencer = .empty then .request false
              else s.transmitter.sequencer
            dropped :=
              if asks ∧ s.transmitter.sequencer ≠ .empty then min 65535 (s.transmitter.dropped + 1)
              else s.transmitter.dropped
            breakPending := if line = .clearing then false else s.transmitter.breakPending }
        events := if line = .established then occurs 1 none u else u.events }

/-- ANSWER is taken in UNANSWERED alone, and enters the call by the acceptance check: the printer route or
the punch route. -/
def Obligations.AnswerByAcceptance : Prop :=
  ∀ s : State, CommandTaken s →
    (s.controller.state ≠ .unanswered → Refuses .answer s 0xB1 3)
    ∧ ∀ accepted : Bool, s.controller.state = .unanswered → (accepted = true ↔ Accepts s) →
        let t := enterCall .answered accepted s
        Answers .answer s 0xB1 [0, t.controller.state.value, haltValue t.transmitter.halt, 0, 0] t

/-- HALT SEND and RESUME SEND in every line state: the halt flag and its reason; only a flag that was clear
raises SEND_HALTED. -/
def Obligations.HaltAndResumeSend : Prop :=
  ∀ s : State, CommandTaken s →
    (s.transmitter.halt = none →
      Answers .haltSend s 0xB1 [0, s.controller.state.value, 3, 0, 0]
        { s with
          transmitter := { s.transmitter with halt := some .host }
          events := occurs 6 (some 3) s })
    ∧ (∀ why, s.transmitter.halt = some why →
        Answers .haltSend s 0xB1 [0, s.controller.state.value, why.value, 0, 0] s)
    ∧ Answers .resumeSend s 0xB1 [0, s.controller.state.value, 0, 0, 0]
        { s with transmitter := { s.transmitter with halt := none } }

/-- CANCEL SEND discards what waits in SEND (a SEND ring of 8 cells or more, as every layout has, frees the
keyboard that types into it). HERE_IS makes an answer-back request in ESTABLISHED with its outcome. BREAK is
accepted in ESTABLISHED alone: one request is held, and one made during a break is taken into that break. -/
def Obligations.CancelHereIsAndBreak : Prop :=
  ∀ s : State, CommandTaken s →
    (8 ≤ (s.ring .send).len →
      Answers .cancelSend s 0xB1
        ([0, s.controller.state.value, haltValue s.transmitter.halt] ++ be2 (unread s .xmit))
        { s with
          store :=
            { s.store with
              sendPlane := s.transmitter.streamPlane
              cursors := { s.store.cursors with xmit := { s.store.cursors.xmit with r := s.store.rings.send.w } } }
          keyboard :=
            { s.keyboard with locked := s.keyboard.locked && s.modes.station == .localMode } })
    ∧ (s.controller.state ≠ .established → Refuses .hereIs s 0xB1 3)
    ∧ (s.controller.state = .established →
        let reply (outcome : Byte) : List Byte := [0, 5, haltValue s.transmitter.halt, 0, outcome]
        (s.tables.answerBack = [] → Answers .hereIs s 0xB1 (reply 2) s)
        ∧ (s.tables.answerBack ≠ [] → s.transmitter.sequencer = .empty →
            Answers .hereIs s 0xB1 (reply 0)
              { s with transmitter := { s.transmitter with sequencer := .request false } })
        ∧ (s.tables.answerBack ≠ [] → s.transmitter.sequencer ≠ .empty →
            Answers .hereIs s 0xB1 (reply 1)
              { s with transmitter :=
                  { s.transmitter with dropped := min 65535 (s.transmitter.dropped + 1) } }))
    ∧ (s.controller.state ≠ .established → Refuses .breakSend s 0xB1 3)
    ∧ (s.controller.state = .established →
        let reply : List Byte := [0, 5, haltValue s.transmitter.halt, 0, 0]
        (∀ ends, s.transmitter.state = .breaking ends → Answers .breakSend s 0xB1 reply s)
        ∧ ((∀ ends, s.transmitter.state ≠ .breaking ends) →
            Answers .breakSend s 0xB1 reply
              { s with transmitter := { s.transmitter with breakPending := true } }))

/-- STOP at the printer and at the punch: the HOST reason, and, when no reason stood before, the return of an
entry held and not begun: R back by one, or the entry counted lost with LAPPED once its cell has been
rewritten, or nothing where the host has moved the cursor since. RESUME at both, and FEED n at the punch. -/
def Obligations.EngineActions : Prop :=
  ∀ s : State, CommandTaken s → ∀ n : Byte,
    let back (h : Held) (u : State) : State :=
      if h.moved then u
      else if unread s h.cursor < (s.ring h.cursor.ring).len then
        u.setCursor h.cursor { s.cursor h.cursor with r := (s.cursor h.cursor).r - 1 }
      else
        { u.setCursor h.cursor { s.cursor h.cursor with lost := min 65535 ((s.cursor h.cursor).lost + 1) } with
          events := occurs 7 (some (byte h.cursor.number)) s }
    let stopPrinter := { s with printer := { s.printer with halts := { s.printer.halts with host := true } } }
    let emptied := { stopPrinter with printer := { stopPrinter.printer with held := none } }
    let stopPunch := { s with punch := { s.punch with halts := { s.punch.halts with host := true } } }
    let cleared := { stopPunch with punch := { stopPunch.punch with held := none } }
    let p := stopPrinter.printer.halts.value
    let q := stopPunch.punch.halts.value
    ((s.printer.halts.any = true ∨ s.printer.held = none) → Answers .printerActionStop s 0xB2 [0, p] stopPrinter)
    ∧ (∀ h, s.printer.halts.any = false → s.printer.held = some h →
        Answers .printerActionStop s 0xB2 [0, p] (back h emptied))
    ∧ ((s.punch.halts.any = true ∨ s.punch.held = none) →
        Answers (.punchActionStop n) s 0xB3 [0, q, byte s.punch.feeds] stopPunch)
    ∧ (∀ h, s.punch.halts.any = false → s.punch.held = some h →
        Answers (.punchActionStop n) s 0xB3 [0, q, byte s.punch.feeds] (back h cleared))
    ∧ (let on (b : Bool) (v : Nat) : Nat := if b then v else 0
      let p := byte (on s.printer.halts.paper 1 + on s.printer.halts.cover 2)
      let q := byte (on s.punch.halts.tapeOut 1 + on s.punch.halts.cover 2)
      let feeds := min 255 (s.punch.feeds + n.toNat)
      Answers .printerActionResume s 0xB2 [0, p]
        { s with printer :=
            { s.printer with halts := { s.printer.halts with host := false, carriage := false } } }
      ∧ Answers (.punchActionResume n) s 0xB3 [0, q, byte s.punch.feeds]
          { s with punch := { s.punch with halts := { s.punch.halts with host := false } } }
      ∧ (n = 0 → Refuses (.punchActionFeed n) s 0xB3 7)
      ∧ (n ≠ 0 →
          Answers (.punchActionFeed n) s 0xB3 [0, byte (q.toNat + on s.punch.halts.host 4), byte feeds]
            { s with punch := { s.punch with feeds := feeds } }))


/-! ## Text into SEND and LOCAL, and the reader commands -/

/-- The insertion of shifts: one character with its needed plane against the ring's writer plane, written as a
pair, alone in the plane meant, or alone in the writer's plane; whole or not at all. -/
def Obligations.ShiftInsertion : Prop :=
  ∀ (i : RingId) (o : Origin) (need : Option Plane) (c : Code) (s : State), i ≠ .traffic →
    let p := writerPlane s i
    let neutral := lookup s.tables .letters c = lookup s.tables .figures c
    let moves (q : Plane) (d : Code) : Prop :=
      (lookup s.tables .letters d).fn = q.shiftFn ∧ (lookup s.tables .figures d).fn = q.shiftFn
    let shift (q : Plane) (d : Code) : Prop := moves q d ∧ ∀ e : Code, e.toNat < d.toNat → ¬ moves q e
    let after (q : Plane) : Plane :=
      match (lookup s.tables q c).fn with
      | .ltrs => .letters
      | .figs => .figures
      | .space => if s.setup.line.unshift then .letters else q
      | _ => q
    let put (d : Code) (q : Plane) (u : State) : State :=
      setWriterPlane i q (appendEntry i (.char d q (if i = .loc then some o else none) none) u)
    let alone (q : Plane) := if 1 ≤ freeSpace s i then some (put c (after q) s) else none
    (∀ q sc, need = some q → q ≠ p → ¬ neutral → shift q sc → sc ≠ c →
      putChar i o need c s = if 2 ≤ freeSpace s i then some (put c (after q) (put sc q s)) else none)
    ∧ (∀ q, need = some q → q ≠ p → ¬ neutral → (∀ d, ¬ moves q d) → putChar i o need c s = alone q)
    ∧ ((need = none ∨ need = some p ∨ neutral ∨ ∃ q, need = some q ∧ shift q c) →
        putChar i o need c s = alone p)

/-- WRITE TEXT and WRITE CODES: the ring and value checks, then the characters in order, each mapped or
skipped, up to the first that does not fit whole; the counts are of the characters up to there. -/
def Obligations.HostWrites : Prop :=
  ∀ (ring : Byte) (p : List Byte) (s : State), CommandTaken s → p.length ≤ 60 →
    let maps (h : Byte) (plane : Plane) (c : Code) : Prop :=
      h ≠ 0 ∧ s.tables.codes[codeIndex plane c].host = h
      ∧ ∀ j : Fin 64, j < codeIndex plane c → s.tables.codes[j].host ≠ h
    let text (i : RingId) (u : State) (h : Byte) : Option State :=
      match hostCharacter s.tables h with
      | none => some u
      | some (plane, c) => putChar i .host (some plane) c u
    let coded (i : RingId) (u : State) (b : Byte) : Option State :=
      putChar i .host (if b.toNat < 32 then none else if b.toNat < 64 then some .letters else some .figures)
        (b.setWidth 5) u
    let known (h : Byte) : Bool := (hostCharacter s.tables h).isSome
    (∀ h plane c, hostCharacter s.tables h = some (plane, c) ↔ maps h plane c)
    ∧ (1 < ring.toNat → Refuses (.writeText (ring :: p)) s 0xC0 7 ∧ Refuses (.writeCodes (ring :: p)) s 0xC1 7)
    ∧ (ring.toNat ≤ 1 → (∃ b ∈ p, 95 < b.toNat) → Refuses (.writeCodes (ring :: p)) s 0xC1 7)
    ∧ ∀ i, ((ring = 0 ∧ i = RingId.send) ∨ (ring = 1 ∧ i = RingId.loc)) →
        (∃ n t, n ≤ p.length ∧ (p.take n).foldlM (text i) s = some t
          ∧ (∀ h, p[n]? = some h → text i t h = none)
          ∧ Answers (.writeText (ring :: p)) s 0xC0
              [if n = p.length then 0 else 2, byte ((p.take n).countP known),
                byte ((p.take n).countP fun h => !known h)] t)
        ∧ ((∀ b ∈ p, b.toNat ≤ 95) →
          ∃ n t, n ≤ p.length ∧ (p.take n).foldlM (coded i) s = some t
            ∧ (∀ b, p[n]? = some b → coded i t b = none)
            ∧ Answers (.writeCodes (ring :: p)) s 0xC1 [if n = p.length then 0 else 2, byte n] t)

/-- READ ENTRIES: the checks, the entries taken or peeked, oldest first, in their four bytes, and what a TAKE
moves: R, and the lock of a keyboard that types into LOCAL. When a TAKE tests the lock is the model's reading,
log 16. -/
def Obligations.ReadEntries : Prop :=
  ∀ (cursor : Byte) (offset : Half) (count : Byte) (s : State), CommandTaken s →
    let take := Instr.readEntriesTake cursor offset count
    let peek := Instr.readEntriesPeek cursor offset count
    let layout (e : Entry) : List Byte :=
      match e with
      | .char c p o h =>
        [if o = some .own ∨ o = some .host then 4 else 0,
          byte (c.toNat + if p = .figures then 32 else 0),
          match h with
          | none => 0
          | some h => byte (h.distortion + match h.quality with
              | .good => 0
              | .stopError => 64
              | .collided => 128),
          (lookup s.tables p c).host]
      | .erase o => [if o = some .own ∨ o = some .host then 5 else 1, 31, 0, 0]
      | .connect => [2, 0, 0, 0]
      | .clear => [3, 0, 0, 0]
    ((cursor ≠ 4 ∧ cursor ≠ 5) ∨ 15 < count.toNat → Refuses take s 0xC8 7 ∧ Refuses peek s 0xC8 7)
    ∧ (2031 < offset.toNat → Refuses peek s 0xC8 7)
    ∧ ∀ c, ((cursor = 4 ∧ c = .hostT) ∨ (cursor = 5 ∧ c = .hostL)) → count.toNat ≤ 15 →
        ((s.cursor c).attached = false →
          Refuses take s 0xC8 3 ∧ (offset.toNat ≤ 2031 → Refuses peek s 0xC8 3))
        ∧ ((s.cursor c).attached = true → StoreOk s → unread s c ≤ (s.ring c.ring).retained →
            let fields (es : List Entry) : List Byte :=
              0 :: (be2 (s.cursor c).lost ++ [byte es.length] ++ es.flatMap layout)
            (∃ es t, es.length = min count.toNat (unread s c)
              ∧ (∀ k, k < es.length → es[k]? = entryBack s c.ring (unread s c - k))
              ∧ Answers take s 0xC8 (fields es) t
              ∧ t = { s.setCursor c { s.cursor c with r := (s.cursor c).r + BitVec.ofNat 32 es.length } with
                  keyboard :=
                    { s.keyboard with
                      locked := s.keyboard.locked && !(c == .hostL && s.modes.station == .localMode
                        && decide (0 < es.length) && decide (8 ≤ freeSpace t .loc)) } })
            ∧ (offset.toNat ≤ 2031 →
              ∃ es, es.length = min count.toNat (unread s c - offset.toNat)
                ∧ (∀ k, k < es.length → es[k]? = entryBack s c.ring (unread s c - offset.toNat - k))
                ∧ Answers peek s 0xC8 (fields es) s))

/-- MOVE READER: R moves by delta, clamped into what the ring retains; the reply gives the movement made. A
movement marks entries held through the cursor (their return then leaves R alone), and a forward one may free
the keyboard. A stale cursor's unread count is reckoned modulo 2^32, log 27. When a move tests the lock is the
model's reading, log 16. -/
def Obligations.MoveReader : Prop :=
  ∀ (cursor : Byte) (delta : Half) (s : State), CommandTaken s →
    let cmd := Instr.moveReader cursor delta
    let bad := 6 < cursor.toNat ∨ delta.toInt < -2032 ∨ 2032 < delta.toInt
    (bad → Refuses cmd s 0xC9 7)
    ∧ ∀ c : CursorId, ¬ bad → cursor = byte c.number → (s.ring c.ring).len ≤ 2032 →
        let goal : Int := (unread s c : Int) - delta.toInt
        let n : Nat :=
          if goal < 0 then 0
          else if ((s.ring c.ring).retained : Int) < goal then (s.ring c.ring).retained
          else goal.toNat
        let made : Int := (unread s c : Int) - n
        let mark (h : Held) : Held := if h.cursor = c ∧ made ≠ 0 then { h with moved := true } else h
        ((s.ring c.ring).filled = true ∨ (s.ring c.ring).w.toNat ≤ 2032) →
        ∃ t, Answers cmd s 0xC9 (0 :: (signed4 made ++ be4 n ++ be2 (s.cursor c).lost)) t
          ∧ unread t c = n
          ∧ t = { s.setCursor c { s.cursor c with r := (s.ring c.ring).w - BitVec.ofNat 32 n } with
              printer := { s.printer with held := s.printer.held.map mark }
              punch := { s.punch with held := s.punch.held.map mark }
              keyboard :=
                { s.keyboard with
                  locked := s.keyboard.locked && !(decide (0 < made) && destination s == c.ring
                    && decide (8 ≤ freeSpace t c.ring)) } }

/-- ATTACH HOST READER: an attachment first brings a cursor more than a length behind to W - length and counts
the difference lost, with LAPPED; a detachment freezes the cursor, and may free the keyboard of LOCAL. When a
detachment tests the lock is the model's reading, log 16. -/
def Obligations.AttachHostReader : Prop :=
  ∀ (cursor : Byte) (s : State), CommandTaken s →
    let attach := Instr.attachHostReader cursor
    let detach := Instr.detachHostReader cursor
    (cursor ≠ 4 → cursor ≠ 5 → Refuses attach s 0xCA 7 ∧ Refuses detach s 0xCA 7)
    ∧ ∀ c, ((cursor = 4 ∧ c = .hostT) ∨ (cursor = 5 ∧ c = .hostL)) →
        let len := (s.ring c.ring).len
        let reply (u : State) : List Byte :=
          0 :: (be4 (u.cursor c).r.toNat ++ be4 (unread u c) ++ be2 (u.cursor c).lost)
        let joined := s.setCursor c { s.cursor c with attached := true }
        let caught :=
          { s.setCursor c
              { r := (s.ring c.ring).w - BitVec.ofNat 32 len
                attached := true
                lost := min 65535 ((s.cursor c).lost + (unread s c - len)) } with
            events := occurs 7 (some cursor) s }
        let left := s.setCursor c { s.cursor c with attached := false }
        let freed := { left with
          keyboard :=
            { s.keyboard with
              locked := s.keyboard.locked && !(c == .hostL && s.modes.station == .localMode
                && decide (8 ≤ freeSpace left .loc)) } }
        ((s.cursor c).attached = true → Answers attach s 0xCA (reply s) s)
        ∧ ((s.cursor c).attached = false → unread s c ≤ len → Answers attach s 0xCA (reply joined) joined)
        ∧ ((s.cursor c).attached = false → len < unread s c → Answers attach s 0xCA (reply caught) caught)
        ∧ ((s.cursor c).attached = false → Answers detach s 0xCA (reply s) s)
        ∧ ((s.cursor c).attached = true → Answers detach s 0xCA (reply freed) freed)

/-! ## STATUS, STATISTICS, EVENT SETUP, EVENT CLEAR -/

/-- STATUS changes nothing but the link: its reply begins at once on a free link, with its contents fixed
there and the host told the debounced states, or waits behind a notice. The fields are listed in their order,
with the states of the printer and of the punch as the first that applies. -/
def Obligations.StatusReply : Prop :=
  ∀ s : State, CommandTaken s →
    let taken : Link := { s.link with buffer := .empty, gapFrom := none }
    let p := s.printer
    let q := s.punch
    let running := s.motor.state = .running
    let punchUnread := (s.modes.source = .traffic ∧ 0 < unread s .punchT)
      ∨ (s.modes.source = .loc ∧ 0 < unread s .punchL)
    let printer : Byte :=
      if p.halts.paper || p.halts.cover || p.halts.carriage || p.halts.host then 2
      else if ¬ running ∧ (p.held ≠ none
          ∨ 0 < unread s (if s.modes.station = .online then .printP else .printA)) then 3
      else if p.held ≠ none ∨ p.wheel ≠ .idle ∨ p.hammer ≠ none ∨ p.carriage ≠ .idle ∨ p.paper ≠ none then 1
      else 0
    let punch : Byte :=
      if q.halts.tapeOut || q.halts.cover || q.halts.host then 2
      else if ¬ running ∧ (0 < q.feeds ∨ q.held ≠ none ∨ q.work ≠ none ∨ punchUnread) then 3
      else if q.work ≠ none ∨ q.held ≠ none ∨ 0 < q.feeds then 1
      else 0
    let fields : List Byte :=
      [s.controller.state.value, if s.modes.station = .online then 0 else 1,
        match s.modes.source with
        | .off => 0
        | .traffic => 1
        | .loc => 2,
        if s.modes.farOnly then 1 else 0, s.transmitter.state.value, haltValue s.transmitter.halt,
        printer, s.printer.halts.value, byte s.printer.column, byte s.setup.printer.width,
        if s.printer.unsure then 1 else 0,
        punch, s.punch.halts.value, byte s.punch.feeds,
        s.motor.state.value, if s.keyboard.locked then 1 else 0, senseSet s]
      ++ be4 s.store.rings.traffic.w.toNat ++ be4 s.store.rings.send.w.toNat ++ be4 s.store.rings.loc.w.toNat
      ++ [byte (setByte ([CursorId.printP, .printA, .punchT, .punchL, .hostT, .hostL, .xmit].map fun c =>
            (s.cursor c).attached))]
      ++ be4 (unread s .printP) ++ be4 (unread s .printA) ++ be4 (unread s .punchT) ++ be4 (unread s .punchL)
      ++ be4 (unread s .hostT) ++ be4 (unread s .hostL) ++ be4 (unread s .xmit)
    (∀ o, s.link.out = some o → exec .status s = .next { s with link := { taken with waiting := some .status } })
    ∧ (s.link.out = none →
        exec .status s
          = .next
            { s with
              link := { taken with out := some { bytes := 0xD0 :: 59 :: 0 :: fields, start := s.now, reply := true } }
              sense := s.sense.map fun i => { i with reported := i.debounced } })

/-- STATISTICS replies with the figures of the four blocks as they stood, and clears each. -/
def Obligations.StatisticsReply : Prop :=
  ∀ s : State, CommandTaken s →
    let r := s.receiver.stats
    Answers .statistics s 0xD1
      (0 :: (be2 r.good ++ be2 r.stopError ++ be2 r.collided ++ be2 r.falseStart
        ++ [byte r.peakEarly, byte r.peakLate] ++ be2 r.warning ++ be2 s.transmitter.sent
        ++ be2 s.transmitter.dropped ++ be2 s.printer.strikes ++ be2 s.punch.punched ++ be2 s.punch.erases))
      { s with
        receiver :=
          { s.receiver with
            stats :=
              { good := 0, stopError := 0, collided := 0, falseStart := 0, peakEarly := 0, peakLate := 0,
                warning := 0 } }
        transmitter := { s.transmitter with sent := 0, dropped := 0 }
        printer := { s.printer with strikes := 0 }
        punch := { s.punch with punched := 0, erases := 0 } }

/-- EVENT SETUP: the whole check, then each setting in order; the last for an event decides. Flags, counts and
data are kept. EVENT CLEAR clears the events named, or all with none named; SENSE_CHANGE, once its pending flag
has been cleared, is raised again at once while the sense states differ from those last reported. -/
def Obligations.EventCommands : Prop :=
  (∀ (s : State) (es : List (Byte × Byte × Byte)), CommandTaken s → es.length ≤ 16 →
     let cmd := Instr.eventSetup (es.flatMap fun e => [e.1, e.2.1, e.2.2])
     let bad := ∃ e ∈ es, 15 < e.1.toNat ∨ 1 < e.2.1.toNat ∨ 3 < e.2.2.toNat
     (bad → Refuses cmd s 0xE0 7)
     ∧ (¬ bad → ∃ t, Answers cmd s 0xE0 [0] t ∧ t = { s with events := t.events }
         ∧ ∀ e : Fin 16, t.events[e] =
             match (es.filter fun x => x.1.toNat == e.val).getLast? with
             | none => s.events[e]
             | some x => { s.events[e] with enabled := x.2.1 == 1, priority := x.2.2.toNat }))
  ∧ ∀ (s : State) (p : List Byte), CommandTaken s → p.length ≤ 16 →
      let cmd := Instr.eventClear p
      let bad := ∃ b ∈ p, 15 < b.toNat
      let differ := ∃ k : Fin 6, s.sense[k].debounced ≠ s.sense[k].reported
      (bad → Refuses cmd s 0xE1 7)
      ∧ (¬ bad → ∃ t, Answers cmd s 0xE1 [0] t ∧ t = { s with events := t.events }
          ∧ ∀ e : Fin 16, t.events[e] =
              if p = [] ∨ byte e.val ∈ p then
                if e = 13 ∧ s.events[13].pending = true ∧ differ then
                  { s.events[e] with pending := true, count := 1 }
                else { s.events[e] with pending := false, count := 0 }
              else s.events[e])


/-! ## The line: transitions, samples, completions, thresholds -/

/-- A write into a ring: the entry in the write place and W one more; the entry is then the newest retained,
every other one lies one further back, and no other ring is touched. A write into TRAFFIC then laps PRINT-P,
PUNCH-T and HOST-T in this order, each one over the length moved to W - length with one entry lost and LAPPED.
The free space of SEND and LOCAL is the length less the largest unread count of an attached cursor. -/
def Obligations.RingWrites : Prop :=
  ∀ (e : Entry) (s : State),
    let next (r : Ring) : Ring :=
      { r with
        w := r.w + 1
        place := if r.place + 1 = r.base + r.len then r.base else r.place + 1
        filled := r.filled || r.w.toNat + 1 == r.len }
    let appended (i : RingId) : State :=
      { s with store :=
          { s.store with
            cells := writeCell (s.ring i).place e s.store.cells
            rings :=
              match i with
              | .traffic => { s.store.rings with traffic := next s.store.rings.traffic }
              | .send => { s.store.rings with send := next s.store.rings.send }
              | .loc => { s.store.rings with loc := next s.store.rings.loc } } }
    let holds (i : RingId) (t : State) : Prop :=
      entryBack t i 1 = some e
      ∧ (∀ j, 1 ≤ j → j < (s.ring i).len → entryBack t i (j + 1) = entryBack s i j)
      ∧ ∀ k j, k ≠ i → entryBack t k j = entryBack s k j
    let r := s.ring .traffic
    let passed (c : CursorId) : Bool :=
      (s.cursor c).attached && decide (r.len < (r.w + 1 - (s.cursor c).r).toNat)
    let lap (u : State) (c : CursorId) : State :=
      { u.setCursor c
          { r := r.w + 1 - BitVec.ofNat 32 r.len, attached := true
            lost := min 65535 ((s.cursor c).lost + 1) } with
        events := occurs 7 (some (byte c.number)) u }
    let t := writeTraffic e s
    (∀ i, appendEntry i e s = appended i)
    ∧ t = ([CursorId.printP, .punchT, .hostT].filter passed).foldl lap (appended .traffic)
    ∧ (StoreOk s → holds .traffic t ∧ ∀ i, holds i (appended i))
    ∧ (CursorsBound s → ∀ i, i ≠ .traffic →
        let mine (c : CursorId) : Prop := c.ring = i ∧ (s.cursor c).attached = true
        (∀ c, mine c → freeSpace s i + unread s c ≤ (s.ring i).len)
        ∧ ((∃ c, mine c ∧ freeSpace s i + unread s c = (s.ring i).len)
          ∨ ((∀ c, ¬ mine c) ∧ freeSpace s i = (s.ring i).len)))

/-- A transition of LINE_IN, whole: what the receiver, the spacing-run counter and the connection controller
make of it in each of their states; one that a sample has seen ahead of its turn has had its effect, the model's
choice, log 37. That an edge takes a claim only before the instant of its withdrawal is its reading, log 22. -/
def Obligations.LineTransitions : Prop :=
  ∀ (time : Nat) (s : State),
    let u := s.upTo time
    let l := s.setup.line
    let breaking := s.transmitter.state.isBreaking = true
    let active := (s.controller.state = .waking ∨ s.controller.state = .established
      ∨ s.controller.state = .refusing) ∧ ¬ breaking
    let own : Bool :=
      match s.transmitter.echo with
      | some { code := _, claim := some ends } => decide (u.now < ends)
      | _ => false
    let measured (a : Assembly) : Assembly :=
      let e := u.now - a.t0
      let k := (e + l.unitLength / 2) / l.unitLength
      if 0 < e ∧ e ≤ 6 * l.unitLength + l.unitLength * l.orientation / 100 ∧ 1 ≤ k ∧ k ≤ 6 then
        { a with
          early := max a.early (k * l.unitLength - e)
          late := max a.late (e - k * l.unitLength) }
      else a
    let fallen : State :=
      { u with
        lineIn := false
        receiver :=
          { s.receiver with
            state :=
              match s.receiver.state with
              | .hunting =>
                if active then
                  .assembling
                    { t0 := u.now, own := own, next := 0, code := 0, early := 0, late := 0 }
                else .hunting
              | .assembling a => .assembling (measured a)
              | .waitMark => .waitMark }
        transmitter :=
          { s.transmitter with
            echo :=
              if active ∧ s.receiver.state = .hunting ∧ own = true then
                s.transmitter.echo.map fun e => { e with claim := none }
              else s.transmitter.echo } }
    let risen : State :=
      { u with
        lineIn := true
        receiver :=
          { s.receiver with
            run := none
            state :=
              match s.receiver.state with
              | .assembling a => .assembling (measured a)
              | _ => .hunting } }
    let becomes (level : Bool) (t : State) : Prop :=
      lineTo level time s = t
      ∧ (s.receiver.ahead = 0 →
          exec (if level then .lineInSpaceToMark time else .lineInMarkToSpace time) s = .next (chooseOutgoing t))
    let confirming := some (u.now + l.confirmMs * 1000)
    (s.lineIn = true →
      (s.controller.state ≠ .callPending →
        becomes false
          { fallen with receiver :=
              { fallen.receiver with
                run :=
                  if active ∨ (s.controller.state = .unanswered ∧ ¬ breaking) then
                    some { start := u.now, breakDone := false, clearDone := false }
                  else s.receiver.run } })
      ∧ (s.controller.state = .callPending → s.controller.originate = false →
          becomes false (freed fallen))
      ∧ (s.controller.state = .callPending → s.controller.originate = true →
          s.controller.originateTimer = .expired →
          becomes false { freed fallen with events := occurs 2 (some 2) s })
      ∧ (s.controller.state = .callPending → s.controller.originate = true →
          s.controller.originateTimer ≠ .expired →
          becomes false
            { fallen with controller := { s.controller with state := .originating, confirmTimer := none } }))
    ∧ (s.lineIn = false →
        becomes true
          { risen with controller :=
              match s.controller.state with
              | .free =>
                { s.controller with state := .callPending, originate := false, confirmTimer := confirming }
              | .originating => { s.controller with state := .callPending, confirmTimer := confirming }
              | _ => s.controller })
    ∧ lineTo s.lineIn time s = s
    ∧ ∀ n, s.receiver.ahead = n + 1 →
        let seen := { s with receiver := { s.receiver with ahead := n } }
        exec (.lineInMarkToSpace time) s = .next seen ∧ exec (.lineInSpaceToMark time) s = .next seen

/-- The samples of an assembly before its stop, each at s_k: the start unit, a false start, and the five code
units under the unit order. A sample sees every transition stamped at or before its instant, one of the same
microsecond too: where such transitions still wait in the queue, ahead of any release of RESET, it takes place
in the state after them, and each is counted as seen; the model's choice, log 37. -/
def Obligations.SamplesOfACharacter : Prop :=
  (∀ (t : Nat) (s : State),
    let change (c : Instr) : Option (Bool × Nat) :=
      match c with
      | .lineInMarkToSpace time => some (false, time)
      | .lineInSpaceToMark time => some (true, time)
      | _ => none
    let reset (c : Instr) : Bool :=
      match c with
      | .powerOnReset _ => true
      | _ => false
    let waiting := ((s.pending.takeWhile fun c => !reset c).filterMap change).drop s.receiver.ahead
    let see (u : State) (x : Bool × Nat) : State :=
      let v := lineTo x.1 x.2 u
      { v with receiver := { v.receiver with ahead := v.receiver.ahead + 1 } }
    beforeSample t s = (waiting.takeWhile fun x => decide (x.2 ≤ t)).foldl see s)
  ∧ ∀ (a b : Assembly) (r : State), r.receiver.state = .assembling b →
    let l := r.setup.line
    let instant := b.t0 + b.next * l.unitLength + l.unitLength * l.orientation / 100
    let s := beforeSample instant r
    s.receiver.state = .assembling a →
    let u := s.upTo instant
    let weight : Nat :=
      match l.order with
      | .normal => 2 ^ (a.next - 1)
      | .reversed => 2 ^ (5 - a.next)
    let dropped : State :=
      { u with receiver :=
          { s.receiver with
            state := .hunting
            stats := { s.receiver.stats with falseStart := min 65535 (s.receiver.stats.falseStart + 1) } } }
    (a.next = 0 → s.lineIn = false →
      exec .unitSample r
        = .next (chooseOutgoing { u with receiver := { s.receiver with state := .assembling { a with next := 1 } } }))
    ∧ (1 ≤ a.next → a.next ≤ 5 →
        exec .unitSample r
          = .next (chooseOutgoing
              { u with receiver :=
                  { s.receiver with
                    state :=
                      .assembling
                        { a with
                          next := a.next + 1
                          code := if s.lineIn then a.code ||| BitVec.ofNat 5 weight else a.code } } }))
    ∧ (a.next = 0 → s.lineIn = true → a.own = false → exec .falseStart r = .next (chooseOutgoing dropped))
    ∧ (a.next = 0 → s.lineIn = true → a.own = true →
        exec .falseStart r
          = .next (chooseOutgoing
              (haltedFor .collision
                { dropped with transmitter := { s.transmitter with echo := none } })))

/-- The completion of a character at s_6, as one event: quality, plane, the entry in TRAFFIC, the echo result or
the WRU request, the statistics with DISTORTION, and the load of the idle countdown. That a transition stamped
at or before s_6 and still waiting in the queue takes effect first, and is counted as seen, is the model's
choice, log 37. -/
def Obligations.CharacterCompletion : Prop :=
  ∀ (a b : Assembly) (r : State), r.receiver.state = .assembling b → b.next = 6 →
    let l := r.setup.line
    let instant := b.t0 + 6 * l.unitLength + l.unitLength * l.orientation / 100
    let s := beforeSample instant r
    s.receiver.state = .assembling a → a.next = 6 →
    let u := s.upTo instant
    let agrees : Bool := (s.transmitter.echo.map EchoSlot.code) == some a.code
    let q : Quality :=
      match a.own, agrees, s.lineIn with
      | false, _, true => .good
      | false, _, false => .stopError
      | true, true, true => .good
      | true, _, _ => .collided
    let plane := if s.lineIn then planeFollowing s s.receiver.linePlane a.code else s.receiver.linePlane
    let percent (d : Nat) : Nat := (d * 100 + l.unitLength / 2) / l.unitLength
    let d := max (percent a.early) (percent a.late)
    let up (n : Nat) (b : Bool) : Nat := if b then min 65535 (n + 1) else n
    let st := s.receiver.stats
    let written :=
      writeTraffic (.char a.code plane (some (if a.own then .own else .far)) (some { quality := q, distortion := d })) u
    let wru := a.own = false ∧ q = .good ∧ s.controller.state = .established
      ∧ (lookup s.tables s.receiver.linePlane a.code).fn = .wru ∧ s.tables.answerBack ≠ []
    let answered : State :=
      { written with transmitter :=
          { s.transmitter with
            echo := if a.own then none else s.transmitter.echo
            sequencer :=
              if wru ∧ s.transmitter.sequencer = .empty then .request true else s.transmitter.sequencer
            dropped :=
              if wru ∧ s.transmitter.sequencer ≠ .empty then min 65535 (s.transmitter.dropped + 1)
              else s.transmitter.dropped } }
    let told := if q = .collided then haltedFor .collision answered else answered
    exec .characterCompletion r
      = .next (chooseOutgoing
          { told with
            receiver :=
              { state := if s.lineIn then .hunting else .waitMark
                linePlane := plane
                run := s.receiver.run
                ahead := s.receiver.ahead
                stats :=
                  { good := up st.good (q == .good), stopError := up st.stopError (q == .stopError)
                    collided := up st.collided (q == .collided), falseStart := st.falseStart
                    peakEarly := max st.peakEarly (percent a.early), peakLate := max st.peakLate (percent a.late)
                    warning := up st.warning (decide (l.warning ≤ d)) } }
            motor := idleLoaded u
            events := if l.warning ≤ d ∧ st.warning = 0 then occurs 14 none told else told.events })

/-- What the key sends is what the receiver reads: the levels of a character of code c, sampled at the seven
instants of an undistorted line, assemble to c with a good start and a good stop, in both unit orders and at
every unit length and orientation in range. No other transition waits in the queue for an instant up to the last
of these samples. -/
def Obligations.LineCodeRoundTrip : Prop :=
  ∀ (c : Code) (t0 : Nat) (own : Bool) (s : State),
    s.setup.line.inRange → s.now ≤ t0 →
    s.receiver.state = .assembling { t0 := t0, own := own, next := 0, code := 0, early := 0, late := 0 } →
    let l := s.setup.line
    let last := t0 + 5 * l.unitLength + l.unitLength * l.orientation / 100
    (∀ time, (.lineInMarkToSpace time ∈ s.pending ∨ .lineInSpaceToMark time ∈ s.pending) → last < time) →
    let heard (k : Nat) : Bool := characterMark l.keying c (k * l.unitLength + l.unitLength * l.orientation / 100)
    let sample (u : State) (k : Nat) : Option State :=
      match exec .unitSample (u.setLineIn (heard k)) with
      | .next t => some t
      | _ => none
    heard 0 = false ∧ heard 6 = true
    ∧ ∃ t, (List.range 6).foldlM sample s = some t
      ∧ t.receiver.state = .assembling { t0 := t0, own := own, next := 6, code := c, early := 0, late := 0 }
      ∧ t.now = last

/-- The three instants of the line that come by themselves: the withdrawal of a start-edge claim, and the two
thresholds of a spacing run, each once per run. -/
def Obligations.ClaimAndThresholds : Prop :=
  ∀ s : State,
    (∀ c ends, s.transmitter.echo = some { code := c, claim := some ends } →
      exec .claimWithdrawn s
        = .next (chooseOutgoing
            (haltedFor .collision
              { s.upTo ends with
                transmitter := { s.transmitter with echo := none } })))
    ∧ ∀ r, s.receiver.run = some r →
      (r.breakDone = false →
        let u :=
          { s.upTo (r.start + s.setup.line.breakUnits * s.setup.line.unitLength) with
            receiver := { s.receiver with run := some { r with breakDone := true } } }
        let raised := { u with events := occurs 3 none s }
        (s.controller.state ≠ .established → exec .breakThresholdReached s = .next (chooseOutgoing u))
        ∧ (s.controller.state = .established → s.transmitter.state.isSending = false →
            exec .breakThresholdReached s = .next (chooseOutgoing raised))
        ∧ (s.controller.state = .established → s.transmitter.state.isSending = true →
            exec .breakThresholdReached s = .next (chooseOutgoing (haltedFor .breakReceived raised))))
      ∧ (r.clearDone = false →
        let u :=
          { s.upTo (r.start + s.setup.line.clearMs * 1000) with
            receiver := { s.receiver with run := some { r with clearDone := true } } }
        let marked := writeTraffic .clear u
        let closed := { marked with controller := { s.controller with markerOpen := false } }
        (s.controller.state = .unanswered →
          exec .clearThresholdReached s
            = .next (chooseOutgoing { freed u with events := occurs 2 (some 2) s }))
        ∧ ((s.controller.state = .waking ∨ s.controller.state = .established
              ∨ s.controller.state = .refusing) →
            (s.controller.markerOpen = true →
              exec .clearThresholdReached s
                = .next (chooseOutgoing { freed closed with events := occurs 2 (some 0) marked }))
            ∧ (s.controller.markerOpen = false →
              exec .clearThresholdReached s
                = .next (chooseOutgoing { freed u with events := occurs 2 (some 0) s })))
        ∧ (s.controller.state ∈ [LineState.free, .originating, .callPending, .clearing] →
            exec .clearThresholdReached s = .next (chooseOutgoing u)))

/-! ## The connection controller's timers and the transmitter -/

/-- The timers of a call. Its confirmation: WAKING as originated, or CALL and the answer by the acceptance
check, or UNANSWERED. The expiry of the originate timer, in ORIGINATING and in CALL_PENDING, and of the clear
timer, which ends the clear spacing with the line FREE. -/
def Obligations.CallTimers : Prop :=
  (∀ (t : Nat) (s : State), s.controller.state = .callPending → s.controller.confirmTimer = some t →
     let u := s.upTo t
     let ours :=
       { u with controller :=
           { s.controller with confirmTimer := none, originate := false, originateTimer := .stopped } }
     let theirs :=
       { u with
         controller := { s.controller with confirmTimer := none }
         events := occurs 0 none s }
     (s.controller.originate = true →
       exec .callConfirmed s = .next (chooseOutgoing (enterCall .originated true ours)))
     ∧ (s.controller.originate = false → s.modes.answering = true →
         (Accepts s → exec .callConfirmed s = .next (chooseOutgoing (enterCall .answered true theirs)))
         ∧ (¬ Accepts s → exec .callConfirmed s = .next (chooseOutgoing (enterCall .answered false theirs))))
     ∧ (s.controller.originate = false → s.modes.answering = false →
         exec .callConfirmed s
           = .next (chooseOutgoing
               { theirs with controller := { s.controller with confirmTimer := none, state := .unanswered } })))
  ∧ ∀ (t : Nat) (s : State),
      let u := s.upTo t
      (s.controller.originateTimer = .running t →
        (s.controller.state = .originating →
          exec .originateTimeout s = .next (chooseOutgoing { freed u with events := occurs 2 (some 2) s }))
        ∧ (s.controller.state = .callPending →
            exec .originateTimeout s
              = .next (chooseOutgoing { u with controller := { s.controller with originateTimer := .expired } })))
      ∧ (s.controller.clearTimer = some t → s.controller.state = .clearing →
          let idle := { u with transmitter := { s.transmitter with state := .idle } }
          let marked := writeTraffic .clear idle
          let closed := { marked with controller := { s.controller with markerOpen := false } }
          (s.controller.markerOpen = true →
            exec .clearTimerExpiry s
              = .next (chooseOutgoing { freed closed with events := occurs 2 (some 1) marked }))
          ∧ (s.controller.markerOpen = false →
            exec .clearTimerExpiry s
              = .next (chooseOutgoing { freed idle with events := occurs 2 (some 1) s })))

/-- The begin of a character at a quiet instant, by the arbiter's ranks: the next code of a sequence, the first
code of a request, or the SEND entry at XMIT, before which the shift guard may key a shift code. The character
keeps the unit length, the stop and the unit order of its begin, and its claim the instant of its withdrawal. -/
def Obligations.CharacterBegin : Prop :=
  ∀ s : State, s.transmitter.state = .idle → s.receiver.state = .hunting →
    (s.controller.state = .established ∧ s.transmitter.breakPending = false
      ∨ s.controller.state = .refusing) →
    let l := s.setup.line
    let keyed (c : Code) (u : State) : State :=
      { u with transmitter :=
          { u.transmitter with
            state :=
              .sending s.now c
                { unit := l.unitLength, stop := l.unitLength * l.stopFactor / 100, order := l.order }
            echo := some { code := c, claim := some (s.now + l.unitLength / 5) } } }
    let holding (q : Sequencer) : State := { s with transmitter := { s.transmitter with sequencer := q } }
    let moved := s.setCursor .xmit { s.cursor .xmit with r := (s.cursor .xmit).r + 1 }
    let taken :=
      { moved with
        keyboard :=
          { s.keyboard with
            locked := s.keyboard.locked && !(s.modes.station == .online && decide (8 ≤ freeSpace moved .send)) }
        events := if unread s .xmit = 1 then occurs 5 none s else s.events }
    (∀ c cs wru, s.transmitter.sequencer = .answerBack (c :: cs) wru →
      exec .characterBegin s = .next (chooseOutgoing (keyed c (holding (.answerBack cs wru)))))
    ∧ (∀ c cs, s.transmitter.sequencer = .refusal (c :: cs) →
        exec .characterBegin s = .next (chooseOutgoing (keyed c (holding (.refusal cs)))))
    ∧ (∀ c cs wru, s.controller.state = .established → s.transmitter.sequencer = .request wru →
        s.tables.answerBack = c :: cs →
        exec .characterBegin s = .next (chooseOutgoing (keyed c (holding (.answerBack cs wru)))))
    ∧ (s.controller.state = .established → s.transmitter.sequencer.codesLeft = [] →
        s.transmitter.sequencer.isRequest = false → s.transmitter.halt = none → 1 ≤ unread s .xmit →
        (∀ o, entryBack s .send (unread s .xmit) = some (.erase o) →
          exec .characterBegin s = .next (chooseOutgoing (keyed 31 taken)))
        ∧ ∀ c p o h, entryBack s .send (unread s .xmit) = some (.char c p o h) →
          let needed := lookup s.tables .letters c ≠ lookup s.tables .figures c ∧ p ≠ s.receiver.linePlane
          (∀ sc, needed → shiftCode s.tables p = some sc →
            exec .characterBegin s = .next (chooseOutgoing (keyed sc s)))
          ∧ (¬ (needed ∧ (shiftCode s.tables p).isSome = true) →
            exec .characterBegin s
              = .next (chooseOutgoing
                  (keyed c { taken with transmitter := { s.transmitter with streamPlane := p } }))))

/-- The end of a character's stop element, timed as at its begin, and the begin and end of a break: the count,
the idle countdown, what a finished sequence does, the clear spacing that was waiting, which ends a sequence
without its report, and the counter held through a break. -/
def Obligations.CharacterEndAndBreak : Prop :=
  ∀ s : State,
    let l := s.setup.line
    let clearing (u : State) : Option Nat := some (u.now + l.clearSendMs * 1000)
    (∀ start c keying, s.transmitter.state = .sending start c keying →
      let u := s.upTo (start + 6 * keying.unit + keying.stop)
      let sent := { s.transmitter with state := TxState.idle, sent := min 65535 (s.transmitter.sent + 1) }
      let ended := { u with transmitter := sent, motor := idleLoaded u }
      (s.controller.state = .clearing →
        exec .characterEnd s
          = .next (chooseOutgoing
              { ended with
                transmitter := { sent with state := .clearSpacing, sequencer := .empty }
                controller := { s.controller with clearTimer := clearing u } }))
      ∧ (s.controller.state ≠ .clearing →
          (∀ wru, s.transmitter.sequencer = .answerBack [] wru →
            exec .characterEnd s
              = .next (chooseOutgoing
                  { ended with
                    transmitter := { sent with sequencer := .empty }
                    events := if wru then occurs 4 none s else s.events }))
          ∧ (s.transmitter.sequencer = .refusal [] →
              exec .characterEnd s
                = .next (chooseOutgoing
                    { ended with
                      transmitter :=
                        { sent with state := .clearSpacing, sequencer := .empty, breakPending := false }
                      receiver := { s.receiver with run := none }
                      controller := { s.controller with state := .clearing, clearTimer := clearing u } }))
          ∧ ((∀ wru, s.transmitter.sequencer ≠ .answerBack [] wru) → s.transmitter.sequencer ≠ .refusal [] →
              exec .characterEnd s = .next (chooseOutgoing ended))))
    ∧ (s.controller.state = .established → s.transmitter.state = .idle → s.receiver.state = .hunting →
        s.transmitter.breakPending = true →
        exec .breakBegin s
          = .next (chooseOutgoing
              { s with
                transmitter :=
                  { s.transmitter with state := .breaking (s.now + l.breakMs * 1000), breakPending := false }
                receiver := { s.receiver with run := none } }))
    ∧ ∀ ends, s.transmitter.state = .breaking ends →
        let u := { s.upTo ends with transmitter := { s.transmitter with state := .idle } }
        let counts := s.controller.state ∈
          [LineState.callPending, .unanswered, .waking, .established, .refusing]
        (s.lineIn = true ∨ ¬ counts → exec .breakEnd s = .next (chooseOutgoing u))
        ∧ (s.lineIn = false → counts →
            exec .breakEnd s
              = .next (chooseOutgoing
                  { u with receiver :=
                      { s.receiver with
                        run :=
                          some { start := u.now, breakDone := false, clearDone := false } } }))


/-! ## The keyboard -/

/-- The reading of a key by its state and the condition read: the counts of consecutive readings, the press
event by the key's kind, and the release event; the repeat condition is looked at after each. The reading falls
at the first instant of the key's drive line at or after the present, or, where the key or a higher one of its
line has been read at that instant, one scan later: the model's choice, log 31. That a key being released still
counts as held for rollover is its reading, log 10, and that its release ends what a reload barred, log 34;
against which ring a lock is tested at a change of mode, log 17. -/
def Obligations.KeyReading : Prop :=
  ∀ (k : Fin 64) (closed : Bool) (s : State),
    let u := s.upTo (readingInstant s k)
    let v :=
      { u with
        keyboard :=
          { s.keyboard with contacts := s.keyboard.contacts.set k closed, lastRead := some (u.now, k) } }
    let d := s.setup.keyboard.debounce
    let put (x : KeyState) : State :=
      { v with keyboard := { v.keyboard with states := s.keyboard.states.set k x } }
    let down := put .down
    let becomes (w : State) : Prop := exec (.keyReading k closed) s = .next (chooseOutgoing (updateRepeat w))
    let before := s.keyboard.states[k]
    let presses := closed = true ∧ ((before = .up ∧ d ≤ 1) ∨ ∃ n, before = .pressing n ∧ d ≤ n + 1)
    let releases := closed = false ∧ ((before = .down ∧ d ≤ 1) ∨ ∃ n, before = .releasing n ∧ d ≤ n + 1)
    let isCode (j : Fin 64) : Bool :=
      match s.tables.keys[j] with
      | .code _ _ => true
      | _ => false
    let rivals := ((List.finRange 64).filter fun j => j != k && s.keyboard.states[j].pressed && isCode j).length
    let spelled :=
      s.tables.answerBack.foldl (fun w c =>
        let p := planeFollowing w w.store.locPlane c
        setWriterPlane .loc p (appendEntry .loc (.char c p (some .keyboard) none) w)) down
    let own := s.modes.station = .online ∧ s.controller.state = .established
    let instant (j : Nat) : Nat := 8000 * j + 1000 * (k.val / 8 + 1)
    (∃ j, s.now ≤ instant j ∧ (∀ i, s.now ≤ instant i → j ≤ i)
      ∧ let read := ∃ k', s.keyboard.lastRead = some (instant j, k') ∧ k ≤ k'
        (¬ read → readingInstant s k = instant j) ∧ (read → readingInstant s k = instant j + 8000))
    ∧ (¬ presses → ¬ releases →
        becomes (put
          (match before, closed with
            | .up, true => .pressing 1
            | .up, false => .up
            | .pressing n, true => .pressing (n + 1)
            | .pressing _, false => .up
            | .down, true => .down
            | .down, false => .releasing 1
            | .releasing _, true => .down
            | .releasing n, false => .releasing (n + 1)
            | .suppressed _, true => .suppressed 0
            | .suppressed n, false => if d ≤ n + 1 then .up else .suppressed (n + 1))))
    ∧ (releases →
        becomes { put .up with
          keyboard :=
            { (put .up).keyboard with
              feeding := s.keyboard.feeding.set k false, barred := s.keyboard.barred.set k false } })
    ∧ (presses →
        (s.tables.keys[k] = .unused → becomes down)
        ∧ (s.tables.keys[k] = .repeatKey → becomes down)
        ∧ (∀ c need, s.tables.keys[k] = .code c need →
            (rivals ≤ 1 → becomes (typed c need down)) ∧ (2 ≤ rivals → becomes (put (.suppressed 0))))
        ∧ (s.tables.keys[k] = .rubout → becomes (rubbedOut down))
        ∧ (s.tables.keys[k] = .feed →
            becomes
              { down with
                punch := { s.punch with feeds := min 255 (s.punch.feeds + 1) }
                keyboard := { down.keyboard with feeding := s.keyboard.feeding.set k true } })
        ∧ (s.tables.keys[k] = .mode →
            becomes (stationChanged (if s.modes.station = .online then .localMode else .online) down))
        ∧ (s.tables.keys[k] = .breakKey →
            becomes
              { down with
                transmitter :=
                  { s.transmitter with
                    breakPending :=
                      if own ∧ s.transmitter.state.isBreaking = false then true
                      else s.transmitter.breakPending } })
        ∧ (s.tables.keys[k] = .hereIs →
            (s.modes.station = .online →
              let made := own ∧ s.tables.answerBack ≠ []
              becomes
                { down with
                  transmitter :=
                    { s.transmitter with
                      sequencer :=
                        if made ∧ s.transmitter.sequencer = .empty then .request false
                        else s.transmitter.sequencer
                      dropped :=
                        if made ∧ s.transmitter.sequencer ≠ .empty then min 65535 (s.transmitter.dropped + 1)
                        else s.transmitter.dropped } })
            ∧ (s.modes.station = .localMode → s.keyboard.locked = true → becomes down)
            ∧ (s.modes.station = .localMode → s.keyboard.locked = false →
                (s.tables.answerBack.length ≤ freeSpace s .loc → becomes spelled)
                ∧ (freeSpace s .loc < s.tables.answerBack.length → becomes (lockedOut down)))))

/-- The repeat condition: a REPEAT key held and exactly one repeatable key; a new repeating key starts the
delay, and each expiry makes its keystroke and starts the period. A held CODE key is repeatable, and a held
RUBOUT key that no reload from CODE has barred: the model's reading, log 34. That a key being released still
counts as held is its reading, log 10. -/
def Obligations.RepeatCondition : Prop :=
  ∀ s : State,
    let held (j : Fin 64) : Prop := s.keyboard.states[j].pressed = true
    let repeatable (j : Fin 64) : Prop :=
      held j ∧ ((s.tables.keys[j] = .rubout ∧ s.keyboard.barred[j] = false)
        ∨ ∃ c need, s.tables.keys[j] = .code c need)
    let holds (k : Fin 64) : Prop :=
      (∃ r, held r ∧ s.tables.keys[r] = .repeatKey) ∧ ∀ j, repeatable j ↔ j = k
    let timing (x : Option Repeating) : State := { s with keyboard := { s.keyboard with repeating := x } }
    ((∀ k, ¬ holds k) → updateRepeat s = timing none)
    ∧ (∀ k, holds k →
        updateRepeat s =
          if s.keyboard.repeating.map Repeating.key = some k then s
          else timing (some { key := k, ends := s.now + s.setup.keyboard.delayMs * 1000 }))
    ∧ ∀ r, s.keyboard.repeating = some r →
        let u := s.upTo r.ends
        let on :=
          { u with
            keyboard :=
              { s.keyboard with
                repeating := some { key := r.key, ends := u.now + s.setup.keyboard.periodMs * 1000 } } }
        (∀ c need, s.tables.keys[r.key] = .code c need →
          exec .repeatTimerExpiry s = .next (chooseOutgoing (typed c need on)))
        ∧ (s.tables.keys[r.key] = .rubout →
            exec .repeatTimerExpiry s = .next (chooseOutgoing (rubbedOut on)))
        ∧ (s.tables.keys[r.key] ≠ .rubout → (∀ c need, s.tables.keys[r.key] ≠ .code c need) →
            exec .repeatTimerExpiry s = .next (chooseOutgoing on))

/-! ## The print engine and the punch engine -/

/-- The engines' takes: the entry of the cursor's next sequence into the slot, R one on, and the keyboard
perhaps freed; under FAR-only the punch passes over a run of OWN entries within the same event. Where a
condition fails there is no take. That a take is a step of its own, but where it ends the event that emptied the
slot, is the model's choice, log 19. -/
def Obligations.EngineTakes : Prop :=
  ∀ s : State,
   ((s.motor.state ≠ .running ∨ s.printer.held ≠ none ∨ s.printer.halts.any = true
      ∨ entryBack s (printCursor s).ring (unread s (printCursor s)) = none) → doPrintTake s = none)
   ∧ ((s.motor.state ≠ .running ∨ s.punch.held ≠ none ∨ s.punch.halts.any = true ∨ s.punch.feeds ≠ 0
      ∨ (∀ c, punchCursor s = some c → entryBack s c.ring (unread s c) = none)) → doPunchTake s = none)
   ∧ (s.motor.state = .running →
    let printTakes (t : State) : Prop := doPrintTake s = some t ∧ exec .printTake s = .next (chooseOutgoing t)
    let punchTakes (t : State) : Prop := doPunchTake s = some t ∧ exec .punchTake s = .next (chooseOutgoing t)
    let after (c : CursorId) (n : Nat) : State :=
      let moved := s.setCursor c { s.cursor c with r := (s.cursor c).r + BitVec.ofNat 32 n }
      { moved with
        keyboard :=
          { s.keyboard with
            locked := s.keyboard.locked && !(destination s == c.ring && decide (8 ≤ freeSpace moved c.ring)) } }
    let own (e : Entry) : Prop := ∃ code p heard, e = .char code p (some .own) heard
    let next (c : CursorId) (j : Nat) : Option Entry := entryBack s c.ring (unread s c - j)
    (∀ e, s.printer.held = none → s.printer.halts.any = false → next (printCursor s) 0 = some e →
      printTakes
        { after (printCursor s) 1 with
          printer := { s.printer with held := some { entry := e, cursor := printCursor s, moved := false } } })
    ∧ ∀ c, punchCursor s = some c → s.punch.held = none → s.punch.halts.any = false → s.punch.feeds = 0 →
        let taken (n : Nat) (e : Entry) : State :=
          { after c n with punch := { s.punch with held := some { entry := e, cursor := c, moved := false } } }
        (∀ e, s.modes.farOnly = false → next c 0 = some e →
          punchTakes (taken 1 e))
        ∧ (∀ n e, s.modes.farOnly = true → (∀ j, j < n → ∃ f, next c j = some f ∧ own f) →
            next c n = some e → ¬ own e → punchTakes (taken (n + 1) e))
        ∧ (s.modes.farOnly = true → 0 < unread s c →
            (∀ j, j < unread s c → ∃ f, next c j = some f ∧ own f) →
            punchTakes (after c (unread s c))))

/-- What may come before the action of a held entry. A wheel travel begins the shorter way, forward when both
are 32 steps, and ends at its glyph. The implicit return of an unsure carriage is timed from the line width, and
the implicit newline at the line width begins its return and feed together; the entry stays held. The mark on
the feed of an implicit newline is the model's, log 18; that a column above the width, where no run leads,
counts as at the width is its reading, log 12. -/
def Obligations.BeforePrintAction : Prop :=
  (∀ (h : Held) (c : Code) (p : Plane) (o : Option Origin) (x : Option Heard) (s : State),
     let a := s.printer.wheelAt
     let g := (lookup s.tables p c).glyph
     (s.printer.held = some h → h.entry = .char c p o x → (lookup s.tables p c).fn = .printing →
       s.motor.state = .running → s.printer.wheel = .idle → s.printer.hammer = none → a ≠ g →
       ∃ forward, exec .wheelTravelBegin s
           = .next (chooseOutgoing
               { s with
                 printer := { s.printer with wheel := .travelling g forward (s.now + 750) }
                 motor := idleLoaded s })
         ∧ (forward = true ↔ (g.val + 64 - a.val) % 64 ≤ (a.val + 64 - g.val) % 64))
     ∧ ∀ glyph forward ends, s.printer.wheel = .travelling glyph forward ends →
         let u := s.upTo ends
         let b : Fin 64 := if forward then a + 1 else a - 1
         exec .wheelStepEnd s
           = .next (chooseOutgoing
               { u with
                 printer :=
                   { s.printer with
                     wheelAt := b
                     wheel := if b = glyph then .idle else .travelling glyph forward (u.now + 750) } }))
  ∧ ∀ (h : Held) (s : State), s.printer.held = some h → s.motor.state = .running →
      s.printer.hammer = none → s.printer.carriage = .idle →
      let fn : Option CodeFn :=
        match h.entry with
        | .char c p _ _ => some (lookup s.tables p c).fn
        | _ => none
      let width := s.setup.printer.width
      let returning (column : Nat) : Carriage := .returning (s.now + (20000 + 1500 * (column - 1)))
      (s.printer.unsure = true →
        (h.entry = .connect ∨ h.entry = .clear ∨ fn = some .printing ∨ fn = some .space ∨ fn = some .lf) →
        exec .implicitReturnBegin s
          = .next (chooseOutgoing
              { s with printer := { s.printer with carriage := returning width }, motor := idleLoaded s }))
      ∧ (s.printer.unsure = false → (fn = some .printing ∨ fn = some .space) →
          s.setup.printer.autoNewline = true → width ≤ s.printer.column → s.printer.paper = none →
          exec .implicitNewlineBegin s
            = .next (chooseOutgoing
                { s with
                  printer :=
                    { s.printer with
                      carriage := returning s.printer.column
                      paper := some { ends := s.now + 35000, more := 0 }
                      newline := true }
                  motor := idleLoaded s }))

/-- The actions of held entries, each under its conditions: what begins, and the slot left empty; an entry that
must wait for a mechanism is not begun. As the last step of the event the next entry is taken and considered at
once, and so on. That a ring asked for has begun before the next entry of such a run acts is the model's
reading, log 38. That a SPACE waits for the feed of an implicit newline, that an action without a mechanism
needs no motor, and that a column above the width, where no run leads, counts as at the width, are the model's
readings, logs 18, 25 and 12. -/
def Obligations.PrintActions : Prop :=
  (∀ s : State,
    let rung (u : State) : State :=
      if u.bell.phase = .quiet ∧ 1 ≤ u.bell.count then
        { u with bell := { count := u.bell.count - 1, phase := .ringing u.now (500000 / u.setup.motor.tone) } }
      else u
    printGoesOn s =
      match doPrintTake s with
      | none => s
      | some t =>
        match beginHeld (rung t) with
        | none => t
        | some u => printGoesOn u)
  ∧ ∀ (h : Held) (s : State), s.printer.held = some h →
    let p := s.printer
    let empty := { s with printer := { p with held := none } }
    let becomes (t : State) : Prop :=
      beginHeld s = some t ∧ exec .printActionBegin s = .next (chooseOutgoing (printGoesOn t))
    let waits : Prop := beginHeld s = none
    let runs := s.motor.state = .running
    let still := p.hammer = none ∧ p.carriage = .idle
    let width := s.setup.printer.width
    let auto := s.setup.printer.autoNewline
    let home := p.unsure = false
    let back : Carriage := .returning (s.now + (20000 + 1500 * (p.column - 1)))
    let feeds (n : Nat) : Option PaperFeed :=
      if n = 0 then none else some { ends := s.now + 35000, more := n - 1 }
    (∀ c q o x, h.entry = .char c q o x →
      let fn := (lookup s.tables q c).fn
      (fn = .printing → runs → home → p.wheel = .idle → p.wheelAt = (lookup s.tables q c).glyph → still →
        p.paper = none → (p.column < width ∨ auto = false) →
        becomes
          { empty with
            printer :=
              { p with
                held := none
                hammer := some { ends := s.now + 10000, atWidth := decide (width ≤ p.column) }
                strikes := min 65535 (p.strikes + 1) }
            motor := idleLoaded s })
      ∧ (fn = .space → home → still → (p.newline = false ∨ p.paper = none) →
          (runs → p.column < width →
            becomes
              { empty with
                printer := { p with held := none, carriage := .advancing (s.now + 6000) }
                motor := idleLoaded s })
          ∧ (auto = false → width ≤ p.column → becomes empty))
      ∧ (fn = .cr → runs → still →
          becomes
            { empty with
              printer :=
                { p with
                  held := none
                  carriage :=
                    if p.unsure then .returning (s.now + (20000 + 1500 * (width - 1))) else back }
              motor := idleLoaded s })
      ∧ (fn = .lf → runs → p.unsure = false → p.hammer = none → p.paper = none →
          becomes
            { empty with printer := { p with held := none, paper := feeds 1 }, motor := idleLoaded s })
      ∧ (fn = .printing →
          (p.wheel ≠ .idle ∨ p.wheelAt ≠ (lookup s.tables q c).glyph ∨ ¬ still ∨ p.paper ≠ none) → waits)
      ∧ ((fn = .space ∨ fn = .cr) → ¬ still → waits)
      ∧ (fn = .lf → (p.hammer ≠ none ∨ p.paper ≠ none) → waits)
      ∧ (fn = .bell → becomes { empty with bell := { s.bell with count := min 3 (s.bell.count + 1) } })
      ∧ (fn ∈ [CodeFn.null, .ltrs, .figs, .wru] → becomes empty))
    ∧ (∀ o, h.entry = .erase o → becomes empty)
    ∧ ((h.entry = .connect ∨ h.entry = .clear) → (¬ still ∨ p.paper ≠ none) → waits)
    ∧ (h.entry = .connect → runs → p.unsure = false → still → p.paper = none →
        becomes
          { empty with
            printer :=
              { p with
                held := none
                carriage := if 1 < p.column then back else .idle
                paper := feeds 1 }
            motor := idleLoaded s })
    ∧ (h.entry = .clear → p.unsure = false → still → p.paper = none →
        let n := s.setup.printer.endFeeds
        (p.column ≤ 1 → n = 0 → becomes empty)
        ∧ (runs → (1 < p.column ∨ n ≠ 0) →
            becomes
              { empty with
                printer :=
                  { p with
                    held := none
                    carriage := if 1 < p.column then back else .idle
                    paper := feeds n }
                motor := idleLoaded s }))

/-- The completions of the hammer, the carriage and the paper: the advance after a strike, the column and the
margin bell, the return with the waiting width and the carriage-home check, and the next feed. The mark on the
feed of an implicit newline is the model's, log 18; that the next feed of an end feed begins whatever the
motor's state is its reading, log 25. -/
def Obligations.PrintCompletions : Prop :=
  ∀ s : State,
    let p := s.printer
    (∀ k, p.hammer = some k →
      let u := s.upTo k.ends
      exec .strikeComplete s
        = .next (chooseOutgoing
            (if s.motor.state = .running ∧ k.atWidth = false then
              { u with
                printer := { p with hammer := none, carriage := .advancing (u.now + 6000) }
                motor := idleLoaded u }
            else { u with printer := { p with hammer := none } })))
    ∧ (∀ ends, p.carriage = .advancing ends →
        let u := { s.upTo ends with printer := { p with carriage := .idle, column := p.column + 1 } }
        exec .advanceComplete s
          = .next (chooseOutgoing
              (if s.setup.printer.margin ≠ 0 ∧ p.column + 1 = s.setup.printer.margin then
                { u with bell := { s.bell with count := min 3 (s.bell.count + 1) } }
              else u)))
    ∧ (∀ ends, p.carriage = .returning ends →
        let returned : State :=
          { s.upTo ends with
            setup :=
              { s.setup with
                printer := { s.setup.printer with width := p.waitingWidth.getD s.setup.printer.width } }
            printer :=
              { p with
                carriage := .idle, column := 1, waitingWidth := none } }
        (s.sense[4].debounced = true →
          exec .returnComplete s
            = .next (chooseOutgoing { returned with printer := { returned.printer with unsure := false } }))
        ∧ (s.sense[4].debounced = false →
            let t := printerHalted returned
            exec .returnComplete s
              = .next (chooseOutgoing
                  { t with
                    printer :=
                      { t.printer with unsure := true, halts := { p.halts with carriage := true } }
                    events := occurs 12 (some 1) t })))
    ∧ ∀ f, p.paper = some f →
        let u := s.upTo f.ends
        (f.more = 0 →
          exec .lineFeedComplete s
            = .next (chooseOutgoing
                { u with
                  printer := { p with paper := none, newline := false } }))
        ∧ (∀ n, f.more = n + 1 →
            exec .lineFeedComplete s
              = .next (chooseOutgoing
                  { u with
                    printer :=
                      { p with paper := some { ends := u.now + 35000, more := n }, newline := false }
                    motor := idleLoaded u }))

/-- The punch's work: a blank cycle while feed requests stand; else the held entry by its kind: a character
cycle with its holes, an erase that reaches one position further back or punches forward, a marker that adds its
feeds. As the last step of the event the next entry is taken and considered at once, and so on. At the
completion of a step the next one begins, or waits for the motor; after the last one the mechanism is idle and
each key that feeds adds one request. A feed over positions already holed is one that PHOLE alone is pulsed for.
That an OWN entry held under FAR-only is passed over when considered is the model's reading, log 24; that the
next entry is taken too in the event that begins a cycle, log 38. -/
def Obligations.PunchWorkAndSteps : Prop :=
  (∀ s : State,
    punchGoesOn s =
      match doPunchTake s with
      | none => s
      | some t =>
        match beginPunchHeld t with
        | none => t
        | some u => punchGoesOn u)
  ∧ (∀ s : State,
      (s.motor.state ≠ .running ∨ s.punch.halts.any = true ∨ s.punch.work ≠ none ∨ s.punch.feeds ≠ 0
        ∨ s.punch.held = none) → beginPunchHeld s = none)
  ∧ (∀ s : State, s.motor.state = .running → s.punch.halts.any = false → s.punch.work = none →
     let q := s.punch
     let holes (c : Code) : Code :=
       match s.setup.line.order with
       | .normal => c
       | .reversed => BitVec.ofBoolListLE [c.getLsbD 4, c.getLsbD 3, c.getLsbD 2, c.getLsbD 1, c.getLsbD 0]
     let stroke (code : Code) : PunchWork :=
       { step := .stroke code true, ends := some (s.now + 20000), rest := [.feed false] }
     (1 ≤ q.feeds →
       exec .blankCycleBegin s
         = .next (chooseOutgoing
             { s with
               punch := { q with feeds := q.feeds - 1, runCount := 0, eraseDepth := 0, work := some (stroke 0) }
               motor := idleLoaded s }))
     ∧ ∀ h, q.held = some h → q.feeds = 0 →
         let becomes (p : Punch) (m : Motor) : Prop :=
           let t := { s with punch := { p with held := none }, motor := m }
           beginPunchHeld s = some t ∧ exec .punchActionBegin s = .next (chooseOutgoing (punchGoesOn t))
         (∀ c p x, s.modes.farOnly = true → h.entry = .char c p (some .own) x → becomes q s.motor)
         ∧ (∀ c p o x, h.entry = .char c p o x → (s.modes.farOnly = false ∨ o ≠ some .own) →
             becomes
               { q with
                 runCount := min 255 (q.runCount + 1), eraseDepth := 0,
                 punched := min 65535 (q.punched + 1), work := some (stroke (holes c)) }
               (idleLoaded s))
         ∧ (∀ o, h.entry = .erase o →
             let e := q.eraseDepth + 1
             (e ≤ 8 → e ≤ q.runCount →
               becomes
                 { q with
                   eraseDepth := e, erases := min 65535 (q.erases + 1)
                   work :=
                     some
                       { step := .back, ends := some (s.now + 25000)
                         rest := List.replicate (e - 1) .back ++ .stroke 31 false :: List.replicate e (.feed true) } }
                 (idleLoaded s))
             ∧ ((8 < e ∨ q.runCount < e) →
                 becomes
                   { q with
                     eraseDepth := 0, runCount := min 255 (q.runCount + 1),
                     erases := min 65535 (q.erases + 1), work := some (stroke 31) }
                   (idleLoaded s)))
         ∧ (h.entry = .connect →
             becomes { q with feeds := min 255 (q.feeds + s.setup.punch.leader) } s.motor)
         ∧ (h.entry = .clear →
             becomes { q with feeds := min 255 (q.feeds + s.setup.punch.trailer), runCount := 0 } s.motor))
  ∧ ∀ (w : PunchWork) (ends : Nat) (s : State), s.punch.work = some w → w.ends = some ends →
      let u := s.upTo ends
      let feeding := ((List.finRange 64).filter fun k => s.keyboard.feeding[k]).length
      let lasts (x : PunchStep) : Nat :=
        match x with
        | .stroke _ _ => 20000
        | .feed _ => 25000
        | .back => 25000
      (w.rest = [] →
        exec .punchStepComplete s
          = .next (chooseOutgoing
              { u with punch := { s.punch with work := none, feeds := min 255 (s.punch.feeds + feeding) } }))
      ∧ ∀ x rest, w.rest = x :: rest →
          (s.motor.state = .running →
            exec .punchStepComplete s
              = .next (chooseOutgoing
                  { u with
                    punch :=
                      { s.punch with work := some { step := x, ends := some (u.now + lasts x), rest := rest } }
                    motor := idleLoaded u }))
          ∧ (s.motor.state ≠ .running →
              exec .punchStepComplete s
                = .next (chooseOutgoing
                    { u with punch := { s.punch with work := some { step := x, ends := none, rest := rest } } }))

/-! ## Motor control, the sense inputs and the bell -/

/-- Motor control: the run-up that a start demand begins while STOPPED, its time limit, MOTOR RESTART, and the
expiry of the idle countdown. The bell's cadence: a ring takes one from the count and lasts 150 ms at the tone
then in force, the gap lasts 100 ms, and its end rings again or falls quiet. A FEED key demands the motor while
its entry is DOWN. That an entry to ESTABLISHED notes a break threshold already passed is the model's reading,
log 23. -/
def Obligations.MotorAndBell : Prop :=
  (∀ s : State,
     let stopped := { s with motor := { state := .stopped, runupEnds := none, idleEnds := none } }
     let reply (t : State) : List Byte := [0, t.motor.state.value]
     (s.motor.state = .stopped → Demands s →
       exec .motorRunupStart s = .next (chooseOutgoing (runningUp s)))
     ∧ (∀ t, s.motor.state = .runup → s.motor.runupEnds = some t →
         exec .runupTimeout s = .next (chooseOutgoing (faulted (s.upTo t))))
     ∧ (∀ t, s.motor.state = .running → s.motor.idleEnds = some t →
         let u := s.upTo t
         let rests := ¬ Demands s
           ∧ s.controller.state ∈ [LineState.free, .originating, .callPending, .unanswered]
         (rests → exec .idleCountdownExpiry s = .next (chooseOutgoing { stopped with now := u.now }))
         ∧ (¬ rests → exec .idleCountdownExpiry s = .next (chooseOutgoing { u with motor := idleLoaded u })))
     ∧ (CommandTaken s →
         (s.motor.state ≠ .fault → Answers .motorRestart s 0xB4 (reply s) s)
         ∧ (s.motor.state = .fault → ¬ Demands s → Answers .motorRestart s 0xB4 [0, 0] stopped)
         ∧ (s.motor.state = .fault → Demands s →
             Answers .motorRestart s 0xB4 (reply (runningUp s)) (runningUp s))))
  ∧ ∀ s : State,
      let ring (u : State) : State :=
        { u with
          bell := { count := s.bell.count - 1, phase := .ringing u.now (500000 / s.setup.motor.tone) } }
      (s.bell.phase = .quiet → 1 ≤ s.bell.count → exec .ringBegin s = .next (chooseOutgoing (ring s)))
      ∧ (∀ start half, s.bell.phase = .ringing start half →
          let u := s.upTo (start + 150000)
          exec .ringEnd s = .next (chooseOutgoing { u with bell := { s.bell with phase := .gap u.now } }))
      ∧ ∀ start, s.bell.phase = .gap start →
          let u := s.upTo (start + 100000)
          (1 ≤ s.bell.count → exec .gapEnd s = .next (chooseOutgoing (ring u)))
          ∧ (s.bell.count = 0 →
              exec .gapEnd s = .next (chooseOutgoing { u with bell := { count := 0, phase := .quiet } }))

/-- The sense inputs: the pin, the 10,000 us of stability, SENSE_CHANGE, and what each debounced state does to
the blocks. At COVER_OPEN the printer returns its entry before the punch: the model's choice, log 33; that an
entry to ESTABLISHED notes a break threshold already passed is its reading, log 23. -/
def Obligations.SenseInputs : Prop :=
  ∀ (k : Fin 6) (s : State),
    (∀ level time, s.sense[k].pin ≠ level →
      let u := s.upTo time
      exec (.sensePinChange k level time) s
        = .next (chooseOutgoing
            { u with sense := s.sense.set k { s.sense[k] with pin := level, since := u.now } }))
    ∧ (let value := s.sense[k].pin != s.sense[k].assertedLow
       value ≠ s.sense[k].debounced →
        let sense := s.sense.set k { s.sense[k] with debounced := value }
        let v :=
          { s.upTo (s.sense[k].since + 10000) with
            sense := sense
            events :=
              if sense.toList.any fun i => i.debounced != i.reported then occurs 13 none s else s.events }
        let becomes (t : State) : Prop := exec (.senseDebouncedChange k) s = .next (chooseOutgoing t)
        (value = false →
          (k = 0 → becomes { v with printer := { s.printer with halts := { s.printer.halts with paper := false } } })
          ∧ (k = 2 → becomes { v with punch := { s.punch with halts := { s.punch.halts with tapeOut := false } } })
          ∧ (k = 3 → s.motor.state = .running → becomes (faulted v))
          ∧ (k = 3 → s.motor.state ≠ .running → becomes v)
          ∧ (k = 5 →
              becomes
                { v with
                  printer := { s.printer with halts := { s.printer.halts with cover := false } }
                  punch := { s.punch with halts := { s.punch.halts with cover := false } } })
          ∧ (k = 1 ∨ k = 4 → becomes v))
        ∧ (value = true →
          (k = 1 → becomes { v with events := occurs 10 (some 0) v })
          ∧ (k = 2 →
              let a := punchHalted v
              becomes
                { a with
                  punch :=
                    { a.punch with
                      halts := { s.punch.halts with tapeOut := true }, runCount := 0, eraseDepth := 0 }
                  events := occurs 10 (some 1) a })
          ∧ (k = 3 → s.motor.state = .runup → becomes (running v))
          ∧ (k = 3 → s.motor.state ≠ .runup → becomes v)
          ∧ (k = 4 → becomes v)
          ∧ (k = 5 →
              let a := printerHalted v
              let b := punchHalted { a with printer := { a.printer with halts := { s.printer.halts with cover := true } } }
              becomes { b with punch := { b.punch with halts := { s.punch.halts with cover := true } } })
          ∧ (k = 0 → CursorsBound s →
              let a := printerHalted v
              let b :=
                { a with
                  printer := { a.printer with halts := { s.printer.halts with paper := true } }
                  bell :=
                    { s.bell with
                      count := if s.controller.state = .established then min 3 (s.bell.count + 3) else s.bell.count }
                  events := occurs 9 none a }
              let diverts := (s.cursor .printP).attached = true ∧ s.modes.source = .off ∧ s.modes.divert = true
                ∧ s.sense[2].debounced = false
              (¬ diverts → becomes b)
              ∧ (diverts →
                  becomes
                    { b.setCursor .punchT
                        { r := (b.cursor .printP).r, attached := true, lost := (b.cursor .punchT).lost } with
                      modes := { s.modes with source := .traffic }
                      punch := { s.punch with runCount := 0, eraseDepth := 0 }
                      events := occurs 11 none b }))))

/-! ## What every step keeps -/

/-- Every step keeps the character store in order: its cells in canonical form, the rings within it and apart,
and every retained entry in its cell, of a kind that its ring receives. -/
def Obligations.StoreStaysOk : Prop := ∀ s t : State, StoreOk s → step s = .next t → StoreOk t

/-- Every step keeps an attached cursor's unread count within the length of its ring, and what it has unread
retained; while a ring has not wrapped, that holds of every cursor, and of an entry held and still to be
returned. -/
def Obligations.CursorsStayBound : Prop :=
  ∀ s t : State, StoreOk s → HeldThrough s → CursorsBound s ∧ UnreadRetained s → step s = .next t →
    CursorsBound t ∧ UnreadRetained t

/-- Every step keeps the line consistent: the open CONNECT with the line state, the clear timer with
CLEAR_SPACING, the call's timers with the states that time it, and the sequencer with the states in which it may
hold a request or a sequence. -/
def Obligations.LineStaysConsistent : Prop :=
  ∀ s t : State, MarkerFollowsLine s ∧ ClearSpacingOk s ∧ CallTimersOk s ∧ SequencerFollowsLine s →
    step s = .next t → MarkerFollowsLine t ∧ ClearSpacingOk t ∧ CallTimersOk t ∧ SequencerFollowsLine t

/-- Every step keeps the station consistent: the attached flags with the modes, a held entry with the cursor
that its engine reads, a halted engine without an entry, the motor's timers with its state. -/
def Obligations.StationStaysConsistent : Prop :=
  ∀ s t : State, AttachedByMode s ∧ HeldThrough s ∧ HaltedHoldNothing s ∧ MotorTimersOk s →
    step s = .next t → AttachedByMode t ∧ HeldThrough t ∧ HaltedHoldNothing t ∧ MotorTimersOk t

/-- Every step keeps the saturating counts within their limits, every setup value within its range, and the
column within 1 to the line width in force. That a width waits while an operation in flight leads past it is the
model's choice, log 12. -/
def Obligations.ValuesStayInRange : Prop :=
  ∀ s t : State, CountsOk s ∧ SetupInRange s ∧ ColumnOnLine s → step s = .next t →
    CountsOk t ∧ SetupInRange t ∧ ColumnOnLine t

/-- Every step keeps the event table and the link in order: counts with flags, SENSE_CHANGE pending until the
host is told, a free link only with nothing to send, and one reply owed at most. -/
def Obligations.LinkStaysServed : Prop :=
  ∀ s t : State, EventsOk s ∧ SenseTold s ∧ LinkServed s ∧ OneReplyOwed s → step s = .next t →
    EventsOk t ∧ SenseTold t ∧ LinkServed t ∧ OneReplyOwed t
end

