-- ==== Sys2Proof/Laws/State.lean ====
section
/-! SUPPORT. One lemma per field per setter of State, each true by rfl: a setter changes its own field
and no other. -/

namespace Sys2Proof.Machine.State

variable (s : State)

@[simp] theorem setNow_now (v : Nat) : (s.setNow v).now = v := rfl
@[simp] theorem setNow_ticket (v : Nat) : (s.setNow v).ticket = s.ticket := rfl
@[simp] theorem setNow_lineIn (v : Nat) : (s.setNow v).lineIn = s.lineIn := rfl
@[simp] theorem setNow_store (v : Nat) : (s.setNow v).store = s.store := rfl
@[simp] theorem setNow_tables (v : Nat) : (s.setNow v).tables = s.tables := rfl
@[simp] theorem setNow_setup (v : Nat) : (s.setNow v).setup = s.setup := rfl
@[simp] theorem setNow_modes (v : Nat) : (s.setNow v).modes = s.modes := rfl
@[simp] theorem setNow_receiver (v : Nat) : (s.setNow v).receiver = s.receiver := rfl
@[simp] theorem setNow_transmitter (v : Nat) : (s.setNow v).transmitter = s.transmitter := rfl
@[simp] theorem setNow_controller (v : Nat) : (s.setNow v).controller = s.controller := rfl
@[simp] theorem setNow_keyboard (v : Nat) : (s.setNow v).keyboard = s.keyboard := rfl
@[simp] theorem setNow_printer (v : Nat) : (s.setNow v).printer = s.printer := rfl
@[simp] theorem setNow_punch (v : Nat) : (s.setNow v).punch = s.punch := rfl
@[simp] theorem setNow_motor (v : Nat) : (s.setNow v).motor = s.motor := rfl
@[simp] theorem setNow_sense (v : Nat) : (s.setNow v).sense = s.sense := rfl
@[simp] theorem setNow_bell (v : Nat) : (s.setNow v).bell = s.bell := rfl
@[simp] theorem setNow_link (v : Nat) : (s.setNow v).link = s.link := rfl
@[simp] theorem setNow_events (v : Nat) : (s.setNow v).events = s.events := rfl
@[simp] theorem setNow_pending (v : Nat) : (s.setNow v).pending = s.pending := rfl
@[simp] theorem setTicket_now (v : Nat) : (s.setTicket v).now = s.now := rfl
@[simp] theorem setTicket_ticket (v : Nat) : (s.setTicket v).ticket = v := rfl
@[simp] theorem setTicket_lineIn (v : Nat) : (s.setTicket v).lineIn = s.lineIn := rfl
@[simp] theorem setTicket_store (v : Nat) : (s.setTicket v).store = s.store := rfl
@[simp] theorem setTicket_tables (v : Nat) : (s.setTicket v).tables = s.tables := rfl
@[simp] theorem setTicket_setup (v : Nat) : (s.setTicket v).setup = s.setup := rfl
@[simp] theorem setTicket_modes (v : Nat) : (s.setTicket v).modes = s.modes := rfl
@[simp] theorem setTicket_receiver (v : Nat) : (s.setTicket v).receiver = s.receiver := rfl
@[simp] theorem setTicket_transmitter (v : Nat) : (s.setTicket v).transmitter = s.transmitter := rfl
@[simp] theorem setTicket_controller (v : Nat) : (s.setTicket v).controller = s.controller := rfl
@[simp] theorem setTicket_keyboard (v : Nat) : (s.setTicket v).keyboard = s.keyboard := rfl
@[simp] theorem setTicket_printer (v : Nat) : (s.setTicket v).printer = s.printer := rfl
@[simp] theorem setTicket_punch (v : Nat) : (s.setTicket v).punch = s.punch := rfl
@[simp] theorem setTicket_motor (v : Nat) : (s.setTicket v).motor = s.motor := rfl
@[simp] theorem setTicket_sense (v : Nat) : (s.setTicket v).sense = s.sense := rfl
@[simp] theorem setTicket_bell (v : Nat) : (s.setTicket v).bell = s.bell := rfl
@[simp] theorem setTicket_link (v : Nat) : (s.setTicket v).link = s.link := rfl
@[simp] theorem setTicket_events (v : Nat) : (s.setTicket v).events = s.events := rfl
@[simp] theorem setTicket_pending (v : Nat) : (s.setTicket v).pending = s.pending := rfl
@[simp] theorem setLineIn_now (v : Bool) : (s.setLineIn v).now = s.now := rfl
@[simp] theorem setLineIn_ticket (v : Bool) : (s.setLineIn v).ticket = s.ticket := rfl
@[simp] theorem setLineIn_lineIn (v : Bool) : (s.setLineIn v).lineIn = v := rfl
@[simp] theorem setLineIn_store (v : Bool) : (s.setLineIn v).store = s.store := rfl
@[simp] theorem setLineIn_tables (v : Bool) : (s.setLineIn v).tables = s.tables := rfl
@[simp] theorem setLineIn_setup (v : Bool) : (s.setLineIn v).setup = s.setup := rfl
@[simp] theorem setLineIn_modes (v : Bool) : (s.setLineIn v).modes = s.modes := rfl
@[simp] theorem setLineIn_receiver (v : Bool) : (s.setLineIn v).receiver = s.receiver := rfl
@[simp] theorem setLineIn_transmitter (v : Bool) : (s.setLineIn v).transmitter = s.transmitter := rfl
@[simp] theorem setLineIn_controller (v : Bool) : (s.setLineIn v).controller = s.controller := rfl
@[simp] theorem setLineIn_keyboard (v : Bool) : (s.setLineIn v).keyboard = s.keyboard := rfl
@[simp] theorem setLineIn_printer (v : Bool) : (s.setLineIn v).printer = s.printer := rfl
@[simp] theorem setLineIn_punch (v : Bool) : (s.setLineIn v).punch = s.punch := rfl
@[simp] theorem setLineIn_motor (v : Bool) : (s.setLineIn v).motor = s.motor := rfl
@[simp] theorem setLineIn_sense (v : Bool) : (s.setLineIn v).sense = s.sense := rfl
@[simp] theorem setLineIn_bell (v : Bool) : (s.setLineIn v).bell = s.bell := rfl
@[simp] theorem setLineIn_link (v : Bool) : (s.setLineIn v).link = s.link := rfl
@[simp] theorem setLineIn_events (v : Bool) : (s.setLineIn v).events = s.events := rfl
@[simp] theorem setLineIn_pending (v : Bool) : (s.setLineIn v).pending = s.pending := rfl
@[simp] theorem setStore_now (v : Store) : (s.setStore v).now = s.now := rfl
@[simp] theorem setStore_ticket (v : Store) : (s.setStore v).ticket = s.ticket := rfl
@[simp] theorem setStore_lineIn (v : Store) : (s.setStore v).lineIn = s.lineIn := rfl
@[simp] theorem setStore_store (v : Store) : (s.setStore v).store = v := rfl
@[simp] theorem setStore_tables (v : Store) : (s.setStore v).tables = s.tables := rfl
@[simp] theorem setStore_setup (v : Store) : (s.setStore v).setup = s.setup := rfl
@[simp] theorem setStore_modes (v : Store) : (s.setStore v).modes = s.modes := rfl
@[simp] theorem setStore_receiver (v : Store) : (s.setStore v).receiver = s.receiver := rfl
@[simp] theorem setStore_transmitter (v : Store) : (s.setStore v).transmitter = s.transmitter := rfl
@[simp] theorem setStore_controller (v : Store) : (s.setStore v).controller = s.controller := rfl
@[simp] theorem setStore_keyboard (v : Store) : (s.setStore v).keyboard = s.keyboard := rfl
@[simp] theorem setStore_printer (v : Store) : (s.setStore v).printer = s.printer := rfl
@[simp] theorem setStore_punch (v : Store) : (s.setStore v).punch = s.punch := rfl
@[simp] theorem setStore_motor (v : Store) : (s.setStore v).motor = s.motor := rfl
@[simp] theorem setStore_sense (v : Store) : (s.setStore v).sense = s.sense := rfl
@[simp] theorem setStore_bell (v : Store) : (s.setStore v).bell = s.bell := rfl
@[simp] theorem setStore_link (v : Store) : (s.setStore v).link = s.link := rfl
@[simp] theorem setStore_events (v : Store) : (s.setStore v).events = s.events := rfl
@[simp] theorem setStore_pending (v : Store) : (s.setStore v).pending = s.pending := rfl
@[simp] theorem setTables_now (v : Tables) : (s.setTables v).now = s.now := rfl
@[simp] theorem setTables_ticket (v : Tables) : (s.setTables v).ticket = s.ticket := rfl
@[simp] theorem setTables_lineIn (v : Tables) : (s.setTables v).lineIn = s.lineIn := rfl
@[simp] theorem setTables_store (v : Tables) : (s.setTables v).store = s.store := rfl
@[simp] theorem setTables_tables (v : Tables) : (s.setTables v).tables = v := rfl
@[simp] theorem setTables_setup (v : Tables) : (s.setTables v).setup = s.setup := rfl
@[simp] theorem setTables_modes (v : Tables) : (s.setTables v).modes = s.modes := rfl
@[simp] theorem setTables_receiver (v : Tables) : (s.setTables v).receiver = s.receiver := rfl
@[simp] theorem setTables_transmitter (v : Tables) : (s.setTables v).transmitter = s.transmitter := rfl
@[simp] theorem setTables_controller (v : Tables) : (s.setTables v).controller = s.controller := rfl
@[simp] theorem setTables_keyboard (v : Tables) : (s.setTables v).keyboard = s.keyboard := rfl
@[simp] theorem setTables_printer (v : Tables) : (s.setTables v).printer = s.printer := rfl
@[simp] theorem setTables_punch (v : Tables) : (s.setTables v).punch = s.punch := rfl
@[simp] theorem setTables_motor (v : Tables) : (s.setTables v).motor = s.motor := rfl
@[simp] theorem setTables_sense (v : Tables) : (s.setTables v).sense = s.sense := rfl
@[simp] theorem setTables_bell (v : Tables) : (s.setTables v).bell = s.bell := rfl
@[simp] theorem setTables_link (v : Tables) : (s.setTables v).link = s.link := rfl
@[simp] theorem setTables_events (v : Tables) : (s.setTables v).events = s.events := rfl
@[simp] theorem setTables_pending (v : Tables) : (s.setTables v).pending = s.pending := rfl
@[simp] theorem setSetup_now (v : Setup) : (s.setSetup v).now = s.now := rfl
@[simp] theorem setSetup_ticket (v : Setup) : (s.setSetup v).ticket = s.ticket := rfl
@[simp] theorem setSetup_lineIn (v : Setup) : (s.setSetup v).lineIn = s.lineIn := rfl
@[simp] theorem setSetup_store (v : Setup) : (s.setSetup v).store = s.store := rfl
@[simp] theorem setSetup_tables (v : Setup) : (s.setSetup v).tables = s.tables := rfl
@[simp] theorem setSetup_setup (v : Setup) : (s.setSetup v).setup = v := rfl
@[simp] theorem setSetup_modes (v : Setup) : (s.setSetup v).modes = s.modes := rfl
@[simp] theorem setSetup_receiver (v : Setup) : (s.setSetup v).receiver = s.receiver := rfl
@[simp] theorem setSetup_transmitter (v : Setup) : (s.setSetup v).transmitter = s.transmitter := rfl
@[simp] theorem setSetup_controller (v : Setup) : (s.setSetup v).controller = s.controller := rfl
@[simp] theorem setSetup_keyboard (v : Setup) : (s.setSetup v).keyboard = s.keyboard := rfl
@[simp] theorem setSetup_printer (v : Setup) : (s.setSetup v).printer = s.printer := rfl
@[simp] theorem setSetup_punch (v : Setup) : (s.setSetup v).punch = s.punch := rfl
@[simp] theorem setSetup_motor (v : Setup) : (s.setSetup v).motor = s.motor := rfl
@[simp] theorem setSetup_sense (v : Setup) : (s.setSetup v).sense = s.sense := rfl
@[simp] theorem setSetup_bell (v : Setup) : (s.setSetup v).bell = s.bell := rfl
@[simp] theorem setSetup_link (v : Setup) : (s.setSetup v).link = s.link := rfl
@[simp] theorem setSetup_events (v : Setup) : (s.setSetup v).events = s.events := rfl
@[simp] theorem setSetup_pending (v : Setup) : (s.setSetup v).pending = s.pending := rfl
@[simp] theorem setModes_now (v : Modes) : (s.setModes v).now = s.now := rfl
@[simp] theorem setModes_ticket (v : Modes) : (s.setModes v).ticket = s.ticket := rfl
@[simp] theorem setModes_lineIn (v : Modes) : (s.setModes v).lineIn = s.lineIn := rfl
@[simp] theorem setModes_store (v : Modes) : (s.setModes v).store = s.store := rfl
@[simp] theorem setModes_tables (v : Modes) : (s.setModes v).tables = s.tables := rfl
@[simp] theorem setModes_setup (v : Modes) : (s.setModes v).setup = s.setup := rfl
@[simp] theorem setModes_modes (v : Modes) : (s.setModes v).modes = v := rfl
@[simp] theorem setModes_receiver (v : Modes) : (s.setModes v).receiver = s.receiver := rfl
@[simp] theorem setModes_transmitter (v : Modes) : (s.setModes v).transmitter = s.transmitter := rfl
@[simp] theorem setModes_controller (v : Modes) : (s.setModes v).controller = s.controller := rfl
@[simp] theorem setModes_keyboard (v : Modes) : (s.setModes v).keyboard = s.keyboard := rfl
@[simp] theorem setModes_printer (v : Modes) : (s.setModes v).printer = s.printer := rfl
@[simp] theorem setModes_punch (v : Modes) : (s.setModes v).punch = s.punch := rfl
@[simp] theorem setModes_motor (v : Modes) : (s.setModes v).motor = s.motor := rfl
@[simp] theorem setModes_sense (v : Modes) : (s.setModes v).sense = s.sense := rfl
@[simp] theorem setModes_bell (v : Modes) : (s.setModes v).bell = s.bell := rfl
@[simp] theorem setModes_link (v : Modes) : (s.setModes v).link = s.link := rfl
@[simp] theorem setModes_events (v : Modes) : (s.setModes v).events = s.events := rfl
@[simp] theorem setModes_pending (v : Modes) : (s.setModes v).pending = s.pending := rfl
@[simp] theorem setReceiver_now (v : Receiver) : (s.setReceiver v).now = s.now := rfl
@[simp] theorem setReceiver_ticket (v : Receiver) : (s.setReceiver v).ticket = s.ticket := rfl
@[simp] theorem setReceiver_lineIn (v : Receiver) : (s.setReceiver v).lineIn = s.lineIn := rfl
@[simp] theorem setReceiver_store (v : Receiver) : (s.setReceiver v).store = s.store := rfl
@[simp] theorem setReceiver_tables (v : Receiver) : (s.setReceiver v).tables = s.tables := rfl
@[simp] theorem setReceiver_setup (v : Receiver) : (s.setReceiver v).setup = s.setup := rfl
@[simp] theorem setReceiver_modes (v : Receiver) : (s.setReceiver v).modes = s.modes := rfl
@[simp] theorem setReceiver_receiver (v : Receiver) : (s.setReceiver v).receiver = v := rfl
@[simp] theorem setReceiver_transmitter (v : Receiver) : (s.setReceiver v).transmitter = s.transmitter := rfl
@[simp] theorem setReceiver_controller (v : Receiver) : (s.setReceiver v).controller = s.controller := rfl
@[simp] theorem setReceiver_keyboard (v : Receiver) : (s.setReceiver v).keyboard = s.keyboard := rfl
@[simp] theorem setReceiver_printer (v : Receiver) : (s.setReceiver v).printer = s.printer := rfl
@[simp] theorem setReceiver_punch (v : Receiver) : (s.setReceiver v).punch = s.punch := rfl
@[simp] theorem setReceiver_motor (v : Receiver) : (s.setReceiver v).motor = s.motor := rfl
@[simp] theorem setReceiver_sense (v : Receiver) : (s.setReceiver v).sense = s.sense := rfl
@[simp] theorem setReceiver_bell (v : Receiver) : (s.setReceiver v).bell = s.bell := rfl
@[simp] theorem setReceiver_link (v : Receiver) : (s.setReceiver v).link = s.link := rfl
@[simp] theorem setReceiver_events (v : Receiver) : (s.setReceiver v).events = s.events := rfl
@[simp] theorem setReceiver_pending (v : Receiver) : (s.setReceiver v).pending = s.pending := rfl
@[simp] theorem setTransmitter_now (v : Transmitter) : (s.setTransmitter v).now = s.now := rfl
@[simp] theorem setTransmitter_ticket (v : Transmitter) : (s.setTransmitter v).ticket = s.ticket := rfl
@[simp] theorem setTransmitter_lineIn (v : Transmitter) : (s.setTransmitter v).lineIn = s.lineIn := rfl
@[simp] theorem setTransmitter_store (v : Transmitter) : (s.setTransmitter v).store = s.store := rfl
@[simp] theorem setTransmitter_tables (v : Transmitter) : (s.setTransmitter v).tables = s.tables := rfl
@[simp] theorem setTransmitter_setup (v : Transmitter) : (s.setTransmitter v).setup = s.setup := rfl
@[simp] theorem setTransmitter_modes (v : Transmitter) : (s.setTransmitter v).modes = s.modes := rfl
@[simp] theorem setTransmitter_receiver (v : Transmitter) : (s.setTransmitter v).receiver = s.receiver := rfl
@[simp] theorem setTransmitter_transmitter (v : Transmitter) : (s.setTransmitter v).transmitter = v := rfl
@[simp] theorem setTransmitter_controller (v : Transmitter) : (s.setTransmitter v).controller = s.controller := rfl
@[simp] theorem setTransmitter_keyboard (v : Transmitter) : (s.setTransmitter v).keyboard = s.keyboard := rfl
@[simp] theorem setTransmitter_printer (v : Transmitter) : (s.setTransmitter v).printer = s.printer := rfl
@[simp] theorem setTransmitter_punch (v : Transmitter) : (s.setTransmitter v).punch = s.punch := rfl
@[simp] theorem setTransmitter_motor (v : Transmitter) : (s.setTransmitter v).motor = s.motor := rfl
@[simp] theorem setTransmitter_sense (v : Transmitter) : (s.setTransmitter v).sense = s.sense := rfl
@[simp] theorem setTransmitter_bell (v : Transmitter) : (s.setTransmitter v).bell = s.bell := rfl
@[simp] theorem setTransmitter_link (v : Transmitter) : (s.setTransmitter v).link = s.link := rfl
@[simp] theorem setTransmitter_events (v : Transmitter) : (s.setTransmitter v).events = s.events := rfl
@[simp] theorem setTransmitter_pending (v : Transmitter) : (s.setTransmitter v).pending = s.pending := rfl
@[simp] theorem setController_now (v : Controller) : (s.setController v).now = s.now := rfl
@[simp] theorem setController_ticket (v : Controller) : (s.setController v).ticket = s.ticket := rfl
@[simp] theorem setController_lineIn (v : Controller) : (s.setController v).lineIn = s.lineIn := rfl
@[simp] theorem setController_store (v : Controller) : (s.setController v).store = s.store := rfl
@[simp] theorem setController_tables (v : Controller) : (s.setController v).tables = s.tables := rfl
@[simp] theorem setController_setup (v : Controller) : (s.setController v).setup = s.setup := rfl
@[simp] theorem setController_modes (v : Controller) : (s.setController v).modes = s.modes := rfl
@[simp] theorem setController_receiver (v : Controller) : (s.setController v).receiver = s.receiver := rfl
@[simp] theorem setController_transmitter (v : Controller) : (s.setController v).transmitter = s.transmitter := rfl
@[simp] theorem setController_controller (v : Controller) : (s.setController v).controller = v := rfl
@[simp] theorem setController_keyboard (v : Controller) : (s.setController v).keyboard = s.keyboard := rfl
@[simp] theorem setController_printer (v : Controller) : (s.setController v).printer = s.printer := rfl
@[simp] theorem setController_punch (v : Controller) : (s.setController v).punch = s.punch := rfl
@[simp] theorem setController_motor (v : Controller) : (s.setController v).motor = s.motor := rfl
@[simp] theorem setController_sense (v : Controller) : (s.setController v).sense = s.sense := rfl
@[simp] theorem setController_bell (v : Controller) : (s.setController v).bell = s.bell := rfl
@[simp] theorem setController_link (v : Controller) : (s.setController v).link = s.link := rfl
@[simp] theorem setController_events (v : Controller) : (s.setController v).events = s.events := rfl
@[simp] theorem setController_pending (v : Controller) : (s.setController v).pending = s.pending := rfl
@[simp] theorem setKeyboard_now (v : Keyboard) : (s.setKeyboard v).now = s.now := rfl
@[simp] theorem setKeyboard_ticket (v : Keyboard) : (s.setKeyboard v).ticket = s.ticket := rfl
@[simp] theorem setKeyboard_lineIn (v : Keyboard) : (s.setKeyboard v).lineIn = s.lineIn := rfl
@[simp] theorem setKeyboard_store (v : Keyboard) : (s.setKeyboard v).store = s.store := rfl
@[simp] theorem setKeyboard_tables (v : Keyboard) : (s.setKeyboard v).tables = s.tables := rfl
@[simp] theorem setKeyboard_setup (v : Keyboard) : (s.setKeyboard v).setup = s.setup := rfl
@[simp] theorem setKeyboard_modes (v : Keyboard) : (s.setKeyboard v).modes = s.modes := rfl
@[simp] theorem setKeyboard_receiver (v : Keyboard) : (s.setKeyboard v).receiver = s.receiver := rfl
@[simp] theorem setKeyboard_transmitter (v : Keyboard) : (s.setKeyboard v).transmitter = s.transmitter := rfl
@[simp] theorem setKeyboard_controller (v : Keyboard) : (s.setKeyboard v).controller = s.controller := rfl
@[simp] theorem setKeyboard_keyboard (v : Keyboard) : (s.setKeyboard v).keyboard = v := rfl
@[simp] theorem setKeyboard_printer (v : Keyboard) : (s.setKeyboard v).printer = s.printer := rfl
@[simp] theorem setKeyboard_punch (v : Keyboard) : (s.setKeyboard v).punch = s.punch := rfl
@[simp] theorem setKeyboard_motor (v : Keyboard) : (s.setKeyboard v).motor = s.motor := rfl
@[simp] theorem setKeyboard_sense (v : Keyboard) : (s.setKeyboard v).sense = s.sense := rfl
@[simp] theorem setKeyboard_bell (v : Keyboard) : (s.setKeyboard v).bell = s.bell := rfl
@[simp] theorem setKeyboard_link (v : Keyboard) : (s.setKeyboard v).link = s.link := rfl
@[simp] theorem setKeyboard_events (v : Keyboard) : (s.setKeyboard v).events = s.events := rfl
@[simp] theorem setKeyboard_pending (v : Keyboard) : (s.setKeyboard v).pending = s.pending := rfl
@[simp] theorem setPrinter_now (v : Printer) : (s.setPrinter v).now = s.now := rfl
@[simp] theorem setPrinter_ticket (v : Printer) : (s.setPrinter v).ticket = s.ticket := rfl
@[simp] theorem setPrinter_lineIn (v : Printer) : (s.setPrinter v).lineIn = s.lineIn := rfl
@[simp] theorem setPrinter_store (v : Printer) : (s.setPrinter v).store = s.store := rfl
@[simp] theorem setPrinter_tables (v : Printer) : (s.setPrinter v).tables = s.tables := rfl
@[simp] theorem setPrinter_setup (v : Printer) : (s.setPrinter v).setup = s.setup := rfl
@[simp] theorem setPrinter_modes (v : Printer) : (s.setPrinter v).modes = s.modes := rfl
@[simp] theorem setPrinter_receiver (v : Printer) : (s.setPrinter v).receiver = s.receiver := rfl
@[simp] theorem setPrinter_transmitter (v : Printer) : (s.setPrinter v).transmitter = s.transmitter := rfl
@[simp] theorem setPrinter_controller (v : Printer) : (s.setPrinter v).controller = s.controller := rfl
@[simp] theorem setPrinter_keyboard (v : Printer) : (s.setPrinter v).keyboard = s.keyboard := rfl
@[simp] theorem setPrinter_printer (v : Printer) : (s.setPrinter v).printer = v := rfl
@[simp] theorem setPrinter_punch (v : Printer) : (s.setPrinter v).punch = s.punch := rfl
@[simp] theorem setPrinter_motor (v : Printer) : (s.setPrinter v).motor = s.motor := rfl
@[simp] theorem setPrinter_sense (v : Printer) : (s.setPrinter v).sense = s.sense := rfl
@[simp] theorem setPrinter_bell (v : Printer) : (s.setPrinter v).bell = s.bell := rfl
@[simp] theorem setPrinter_link (v : Printer) : (s.setPrinter v).link = s.link := rfl
@[simp] theorem setPrinter_events (v : Printer) : (s.setPrinter v).events = s.events := rfl
@[simp] theorem setPrinter_pending (v : Printer) : (s.setPrinter v).pending = s.pending := rfl
@[simp] theorem setPunch_now (v : Punch) : (s.setPunch v).now = s.now := rfl
@[simp] theorem setPunch_ticket (v : Punch) : (s.setPunch v).ticket = s.ticket := rfl
@[simp] theorem setPunch_lineIn (v : Punch) : (s.setPunch v).lineIn = s.lineIn := rfl
@[simp] theorem setPunch_store (v : Punch) : (s.setPunch v).store = s.store := rfl
@[simp] theorem setPunch_tables (v : Punch) : (s.setPunch v).tables = s.tables := rfl
@[simp] theorem setPunch_setup (v : Punch) : (s.setPunch v).setup = s.setup := rfl
@[simp] theorem setPunch_modes (v : Punch) : (s.setPunch v).modes = s.modes := rfl
@[simp] theorem setPunch_receiver (v : Punch) : (s.setPunch v).receiver = s.receiver := rfl
@[simp] theorem setPunch_transmitter (v : Punch) : (s.setPunch v).transmitter = s.transmitter := rfl
@[simp] theorem setPunch_controller (v : Punch) : (s.setPunch v).controller = s.controller := rfl
@[simp] theorem setPunch_keyboard (v : Punch) : (s.setPunch v).keyboard = s.keyboard := rfl
@[simp] theorem setPunch_printer (v : Punch) : (s.setPunch v).printer = s.printer := rfl
@[simp] theorem setPunch_punch (v : Punch) : (s.setPunch v).punch = v := rfl
@[simp] theorem setPunch_motor (v : Punch) : (s.setPunch v).motor = s.motor := rfl
@[simp] theorem setPunch_sense (v : Punch) : (s.setPunch v).sense = s.sense := rfl
@[simp] theorem setPunch_bell (v : Punch) : (s.setPunch v).bell = s.bell := rfl
@[simp] theorem setPunch_link (v : Punch) : (s.setPunch v).link = s.link := rfl
@[simp] theorem setPunch_events (v : Punch) : (s.setPunch v).events = s.events := rfl
@[simp] theorem setPunch_pending (v : Punch) : (s.setPunch v).pending = s.pending := rfl
@[simp] theorem setMotor_now (v : Motor) : (s.setMotor v).now = s.now := rfl
@[simp] theorem setMotor_ticket (v : Motor) : (s.setMotor v).ticket = s.ticket := rfl
@[simp] theorem setMotor_lineIn (v : Motor) : (s.setMotor v).lineIn = s.lineIn := rfl
@[simp] theorem setMotor_store (v : Motor) : (s.setMotor v).store = s.store := rfl
@[simp] theorem setMotor_tables (v : Motor) : (s.setMotor v).tables = s.tables := rfl
@[simp] theorem setMotor_setup (v : Motor) : (s.setMotor v).setup = s.setup := rfl
@[simp] theorem setMotor_modes (v : Motor) : (s.setMotor v).modes = s.modes := rfl
@[simp] theorem setMotor_receiver (v : Motor) : (s.setMotor v).receiver = s.receiver := rfl
@[simp] theorem setMotor_transmitter (v : Motor) : (s.setMotor v).transmitter = s.transmitter := rfl
@[simp] theorem setMotor_controller (v : Motor) : (s.setMotor v).controller = s.controller := rfl
@[simp] theorem setMotor_keyboard (v : Motor) : (s.setMotor v).keyboard = s.keyboard := rfl
@[simp] theorem setMotor_printer (v : Motor) : (s.setMotor v).printer = s.printer := rfl
@[simp] theorem setMotor_punch (v : Motor) : (s.setMotor v).punch = s.punch := rfl
@[simp] theorem setMotor_motor (v : Motor) : (s.setMotor v).motor = v := rfl
@[simp] theorem setMotor_sense (v : Motor) : (s.setMotor v).sense = s.sense := rfl
@[simp] theorem setMotor_bell (v : Motor) : (s.setMotor v).bell = s.bell := rfl
@[simp] theorem setMotor_link (v : Motor) : (s.setMotor v).link = s.link := rfl
@[simp] theorem setMotor_events (v : Motor) : (s.setMotor v).events = s.events := rfl
@[simp] theorem setMotor_pending (v : Motor) : (s.setMotor v).pending = s.pending := rfl
@[simp] theorem setSense_now (v : Vector SenseInput 6) : (s.setSense v).now = s.now := rfl
@[simp] theorem setSense_ticket (v : Vector SenseInput 6) : (s.setSense v).ticket = s.ticket := rfl
@[simp] theorem setSense_lineIn (v : Vector SenseInput 6) : (s.setSense v).lineIn = s.lineIn := rfl
@[simp] theorem setSense_store (v : Vector SenseInput 6) : (s.setSense v).store = s.store := rfl
@[simp] theorem setSense_tables (v : Vector SenseInput 6) : (s.setSense v).tables = s.tables := rfl
@[simp] theorem setSense_setup (v : Vector SenseInput 6) : (s.setSense v).setup = s.setup := rfl
@[simp] theorem setSense_modes (v : Vector SenseInput 6) : (s.setSense v).modes = s.modes := rfl
@[simp] theorem setSense_receiver (v : Vector SenseInput 6) : (s.setSense v).receiver = s.receiver := rfl
@[simp] theorem setSense_transmitter (v : Vector SenseInput 6) : (s.setSense v).transmitter = s.transmitter := rfl
@[simp] theorem setSense_controller (v : Vector SenseInput 6) : (s.setSense v).controller = s.controller := rfl
@[simp] theorem setSense_keyboard (v : Vector SenseInput 6) : (s.setSense v).keyboard = s.keyboard := rfl
@[simp] theorem setSense_printer (v : Vector SenseInput 6) : (s.setSense v).printer = s.printer := rfl
@[simp] theorem setSense_punch (v : Vector SenseInput 6) : (s.setSense v).punch = s.punch := rfl
@[simp] theorem setSense_motor (v : Vector SenseInput 6) : (s.setSense v).motor = s.motor := rfl
@[simp] theorem setSense_sense (v : Vector SenseInput 6) : (s.setSense v).sense = v := rfl
@[simp] theorem setSense_bell (v : Vector SenseInput 6) : (s.setSense v).bell = s.bell := rfl
@[simp] theorem setSense_link (v : Vector SenseInput 6) : (s.setSense v).link = s.link := rfl
@[simp] theorem setSense_events (v : Vector SenseInput 6) : (s.setSense v).events = s.events := rfl
@[simp] theorem setSense_pending (v : Vector SenseInput 6) : (s.setSense v).pending = s.pending := rfl
@[simp] theorem setBell_now (v : Bell) : (s.setBell v).now = s.now := rfl
@[simp] theorem setBell_ticket (v : Bell) : (s.setBell v).ticket = s.ticket := rfl
@[simp] theorem setBell_lineIn (v : Bell) : (s.setBell v).lineIn = s.lineIn := rfl
@[simp] theorem setBell_store (v : Bell) : (s.setBell v).store = s.store := rfl
@[simp] theorem setBell_tables (v : Bell) : (s.setBell v).tables = s.tables := rfl
@[simp] theorem setBell_setup (v : Bell) : (s.setBell v).setup = s.setup := rfl
@[simp] theorem setBell_modes (v : Bell) : (s.setBell v).modes = s.modes := rfl
@[simp] theorem setBell_receiver (v : Bell) : (s.setBell v).receiver = s.receiver := rfl
@[simp] theorem setBell_transmitter (v : Bell) : (s.setBell v).transmitter = s.transmitter := rfl
@[simp] theorem setBell_controller (v : Bell) : (s.setBell v).controller = s.controller := rfl
@[simp] theorem setBell_keyboard (v : Bell) : (s.setBell v).keyboard = s.keyboard := rfl
@[simp] theorem setBell_printer (v : Bell) : (s.setBell v).printer = s.printer := rfl
@[simp] theorem setBell_punch (v : Bell) : (s.setBell v).punch = s.punch := rfl
@[simp] theorem setBell_motor (v : Bell) : (s.setBell v).motor = s.motor := rfl
@[simp] theorem setBell_sense (v : Bell) : (s.setBell v).sense = s.sense := rfl
@[simp] theorem setBell_bell (v : Bell) : (s.setBell v).bell = v := rfl
@[simp] theorem setBell_link (v : Bell) : (s.setBell v).link = s.link := rfl
@[simp] theorem setBell_events (v : Bell) : (s.setBell v).events = s.events := rfl
@[simp] theorem setBell_pending (v : Bell) : (s.setBell v).pending = s.pending := rfl
@[simp] theorem setLink_now (v : Link) : (s.setLink v).now = s.now := rfl
@[simp] theorem setLink_ticket (v : Link) : (s.setLink v).ticket = s.ticket := rfl
@[simp] theorem setLink_lineIn (v : Link) : (s.setLink v).lineIn = s.lineIn := rfl
@[simp] theorem setLink_store (v : Link) : (s.setLink v).store = s.store := rfl
@[simp] theorem setLink_tables (v : Link) : (s.setLink v).tables = s.tables := rfl
@[simp] theorem setLink_setup (v : Link) : (s.setLink v).setup = s.setup := rfl
@[simp] theorem setLink_modes (v : Link) : (s.setLink v).modes = s.modes := rfl
@[simp] theorem setLink_receiver (v : Link) : (s.setLink v).receiver = s.receiver := rfl
@[simp] theorem setLink_transmitter (v : Link) : (s.setLink v).transmitter = s.transmitter := rfl
@[simp] theorem setLink_controller (v : Link) : (s.setLink v).controller = s.controller := rfl
@[simp] theorem setLink_keyboard (v : Link) : (s.setLink v).keyboard = s.keyboard := rfl
@[simp] theorem setLink_printer (v : Link) : (s.setLink v).printer = s.printer := rfl
@[simp] theorem setLink_punch (v : Link) : (s.setLink v).punch = s.punch := rfl
@[simp] theorem setLink_motor (v : Link) : (s.setLink v).motor = s.motor := rfl
@[simp] theorem setLink_sense (v : Link) : (s.setLink v).sense = s.sense := rfl
@[simp] theorem setLink_bell (v : Link) : (s.setLink v).bell = s.bell := rfl
@[simp] theorem setLink_link (v : Link) : (s.setLink v).link = v := rfl
@[simp] theorem setLink_events (v : Link) : (s.setLink v).events = s.events := rfl
@[simp] theorem setLink_pending (v : Link) : (s.setLink v).pending = s.pending := rfl
@[simp] theorem setEvents_now (v : Vector EventRecord 16) : (s.setEvents v).now = s.now := rfl
@[simp] theorem setEvents_ticket (v : Vector EventRecord 16) : (s.setEvents v).ticket = s.ticket := rfl
@[simp] theorem setEvents_lineIn (v : Vector EventRecord 16) : (s.setEvents v).lineIn = s.lineIn := rfl
@[simp] theorem setEvents_store (v : Vector EventRecord 16) : (s.setEvents v).store = s.store := rfl
@[simp] theorem setEvents_tables (v : Vector EventRecord 16) : (s.setEvents v).tables = s.tables := rfl
@[simp] theorem setEvents_setup (v : Vector EventRecord 16) : (s.setEvents v).setup = s.setup := rfl
@[simp] theorem setEvents_modes (v : Vector EventRecord 16) : (s.setEvents v).modes = s.modes := rfl
@[simp] theorem setEvents_receiver (v : Vector EventRecord 16) : (s.setEvents v).receiver = s.receiver := rfl
@[simp] theorem setEvents_transmitter (v : Vector EventRecord 16) : (s.setEvents v).transmitter = s.transmitter := rfl
@[simp] theorem setEvents_controller (v : Vector EventRecord 16) : (s.setEvents v).controller = s.controller := rfl
@[simp] theorem setEvents_keyboard (v : Vector EventRecord 16) : (s.setEvents v).keyboard = s.keyboard := rfl
@[simp] theorem setEvents_printer (v : Vector EventRecord 16) : (s.setEvents v).printer = s.printer := rfl
@[simp] theorem setEvents_punch (v : Vector EventRecord 16) : (s.setEvents v).punch = s.punch := rfl
@[simp] theorem setEvents_motor (v : Vector EventRecord 16) : (s.setEvents v).motor = s.motor := rfl
@[simp] theorem setEvents_sense (v : Vector EventRecord 16) : (s.setEvents v).sense = s.sense := rfl
@[simp] theorem setEvents_bell (v : Vector EventRecord 16) : (s.setEvents v).bell = s.bell := rfl
@[simp] theorem setEvents_link (v : Vector EventRecord 16) : (s.setEvents v).link = s.link := rfl
@[simp] theorem setEvents_events (v : Vector EventRecord 16) : (s.setEvents v).events = v := rfl
@[simp] theorem setEvents_pending (v : Vector EventRecord 16) : (s.setEvents v).pending = s.pending := rfl
@[simp] theorem setPending_now (v : List Instr) : (s.setPending v).now = s.now := rfl
@[simp] theorem setPending_ticket (v : List Instr) : (s.setPending v).ticket = s.ticket := rfl
@[simp] theorem setPending_lineIn (v : List Instr) : (s.setPending v).lineIn = s.lineIn := rfl
@[simp] theorem setPending_store (v : List Instr) : (s.setPending v).store = s.store := rfl
@[simp] theorem setPending_tables (v : List Instr) : (s.setPending v).tables = s.tables := rfl
@[simp] theorem setPending_setup (v : List Instr) : (s.setPending v).setup = s.setup := rfl
@[simp] theorem setPending_modes (v : List Instr) : (s.setPending v).modes = s.modes := rfl
@[simp] theorem setPending_receiver (v : List Instr) : (s.setPending v).receiver = s.receiver := rfl
@[simp] theorem setPending_transmitter (v : List Instr) : (s.setPending v).transmitter = s.transmitter := rfl
@[simp] theorem setPending_controller (v : List Instr) : (s.setPending v).controller = s.controller := rfl
@[simp] theorem setPending_keyboard (v : List Instr) : (s.setPending v).keyboard = s.keyboard := rfl
@[simp] theorem setPending_printer (v : List Instr) : (s.setPending v).printer = s.printer := rfl
@[simp] theorem setPending_punch (v : List Instr) : (s.setPending v).punch = s.punch := rfl
@[simp] theorem setPending_motor (v : List Instr) : (s.setPending v).motor = s.motor := rfl
@[simp] theorem setPending_sense (v : List Instr) : (s.setPending v).sense = s.sense := rfl
@[simp] theorem setPending_bell (v : List Instr) : (s.setPending v).bell = s.bell := rfl
@[simp] theorem setPending_link (v : List Instr) : (s.setPending v).link = s.link := rfl
@[simp] theorem setPending_events (v : List Instr) : (s.setPending v).events = s.events := rfl
@[simp] theorem setPending_pending (v : List Instr) : (s.setPending v).pending = v := rfl

end Sys2Proof.Machine.State
end

