-- ==== Sys2Proof/Laws/Engines.lean ====
section
/-! SUPPORT. What the last steps of an event that empties an engine's slot can do (R135, R156), and the ring that
begins at its request (R180). -/

namespace Sys2Proof.Machine

/-- A ring begun at once touches nothing but the bell (R180). -/
theorem ringAtOnce_eq (s : State) : ringAtOnce s = s.setBell (ringAtOnce s).bell := by
  simp only [ringAtOnce, doRingBegin]
  split <;> rfl

/-- In QUIET with a count of 1 or more the ring begins. -/
theorem ringAtOnce_quiet (s : State) (q : s.bell.phase = .quiet) (h : 1 ≤ s.bell.count) :
    ringAtOnce s = startRing s := by
  simp [ringAtOnce, doRingBegin, q, h]

/-- While the bell rings, or in a gap, nothing begins. -/
theorem ringAtOnce_busy (s : State) (q : s.bell.phase ≠ .quiet) : ringAtOnce s = s := by
  simp [ringAtOnce, doRingBegin, q]

/-- A run of the printer that cannot take ends where it stands. -/
theorem printRun_done (n : Nat) (s : State) (h : doPrintTake s = none) : printRun n s = s := by
  cases n <;> simp [printRun, h]

/-- One that takes an entry which must wait holds it. -/
theorem printRun_holds (n : Nat) (s t : State) (h : doPrintTake s = some t) (w : beginHeld (ringAtOnce t) = none) :
    printRun (n + 1) s = t := by
  simp [printRun, h, w]

/-- One that takes an entry which begins goes on behind it. -/
theorem printRun_on (n : Nat) (s t u : State) (h : doPrintTake s = some t) (w : beginHeld (ringAtOnce t) = some u) :
    printRun (n + 1) s = printRun n u := by
  simp [printRun, h, w]

/-- A run of the punch that cannot take ends where it stands. -/
theorem punchRun_done (n : Nat) (s : State) (h : doPunchTake s = none) : punchRun n s = s := by
  cases n <;> simp [punchRun, h]

/-- One that takes an entry which must wait holds it. -/
theorem punchRun_holds (n : Nat) (s t : State) (h : doPunchTake s = some t) (w : beginPunchHeld t = none) :
    punchRun (n + 1) s = t := by
  simp [punchRun, h, w]

/-- One that takes an entry which begins goes on behind it. -/
theorem punchRun_on (n : Nat) (s t u : State) (h : doPunchTake s = some t) (w : beginPunchHeld t = some u) :
    punchRun (n + 1) s = punchRun n u := by
  simp [punchRun, h, w]

/-- What a run of the printer keeps, where a take, a beginning ring and a begun action each keep it. -/
theorem printRun_keeps (P : State → Prop) (take : ∀ s t, doPrintTake s = some t → P s → P t)
    (ring : ∀ s, P s → P (ringAtOnce s)) (act : ∀ s t, beginHeld s = some t → P s → P t) :
    ∀ (n : Nat) (s : State), P s → P (printRun n s) := by
  intro n
  induction n with
  | zero => exact fun _ h => h
  | succ n ih =>
    intro s h
    cases ht : doPrintTake s with
    | none => rwa [printRun_done _ s ht]
    | some t =>
      have k := take s t ht h
      cases hw : beginHeld (ringAtOnce t) with
      | none => rwa [printRun_holds n s t ht hw]
      | some u => exact (printRun_on n s t u ht hw).symm ▸ ih u (act _ u hw (ring t k))

/-- What a run of the punch keeps, where a take and a begun action each keep it. -/
theorem punchRun_keeps (P : State → Prop) (take : ∀ s t, doPunchTake s = some t → P s → P t)
    (act : ∀ s t, beginPunchHeld s = some t → P s → P t) :
    ∀ (n : Nat) (s : State), P s → P (punchRun n s) := by
  intro n
  induction n with
  | zero => exact fun _ h => h
  | succ n ih =>
    intro s h
    cases ht : doPunchTake s with
    | none => rwa [punchRun_done _ s ht]
    | some t =>
      have k := take s t ht h
      cases hw : beginPunchHeld t with
      | none => rwa [punchRun_holds n s t ht hw]
      | some u => exact (punchRun_on n s t u ht hw).symm ▸ ih u (act t u hw k)

end Sys2Proof.Machine
end

