-- ==== Sys2Proof/Laws/Keyboard.lean ====
section
/-! SUPPORT. What the operations on held keys do: which keys repeat (R113 to R115), what a reload bars and a
release lifts (R114), and the start demand as a proposition (R168). -/

namespace Sys2Proof.Machine

/-- The kind CODE, as a proposition (R40). -/
theorem KeyEntry.isCode_iff (e : KeyEntry) : e.isCode = true ↔ ∃ code plane, e = .code code plane := by
  cases e <;> simp [KeyEntry.isCode]

/-- A repeatable key is held, and is CODE, or RUBOUT and not barred (R113 to R115). -/
theorem repeatable_iff (s : State) (k : Fin 64) :
    repeatable s k = true ↔
      s.keyboard.states[k].pressed = true
      ∧ ((s.tables.keys[k] = .rubout ∧ s.keyboard.barred[k] = false)
        ∨ ∃ code plane, s.tables.keys[k] = .code code plane) := by
  simp [repeatable, ← KeyEntry.isCode_iff, or_comm]

/-- A load touches nothing but the bars (R114). -/
theorem barReloaded_eq (before : Vector KeyEntry 64) (s : State) :
    barReloaded before s =
      s.setKeyboard { s.keyboard with barred := (barReloaded before s).keyboard.barred } := rfl

/-- What a load makes of one key's bar: none for a CODE key; one for a held key that was CODE before; else as it
was (R114). -/
theorem barReloaded_barred (before : Vector KeyEntry 64) (s : State) (k : Fin 64) :
    (barReloaded before s).keyboard.barred[k] =
      (!s.tables.keys[k].isCode
        && (s.keyboard.barred[k] || (s.keyboard.states[k].pressed && before[k].isCode))) := by
  simp [barReloaded, State.setKeyboard]

/-- A release leaves the key UP, feeding nothing and barred from nothing (R110, R114, R123). -/
theorem releaseKey_eq (k : Fin 64) (s : State) :
    releaseKey k s =
      s.setKeyboard
        { s.keyboard with
          states := s.keyboard.states.set k .up
          feeding := s.keyboard.feeding.set k false
          barred := s.keyboard.barred.set k false } := rfl

/-- The start demand as a proposition (R168). -/
theorem startDemand_iff (s : State) : startDemand s = true ↔ Demands s := by
  have punch : punchUnread s = true ↔ ∃ c, punchCursor s = some c ∧ 0 < unread s c := by
    unfold punchUnread
    split <;> simp_all
  simp [startDemand, Demands, punch, printUnread, Option.isSome_iff_ne_none, or_assoc]

end Sys2Proof.Machine
end

