-- ==== Sys2Proof/Laws/StoreFrames.lean ====
section
/-! SUPPORT. The fields that the operations on events, time and the store leave alone: one lemma for each operation. -/

namespace Sys2Proof.Machine

/-- Unchanged by `raise`. -/
@[simp] theorem raise_frame (e : Fin 16) (d : Option Byte) (s : State) :
    (raise e d s).now = s.now
    ∧ (raise e d s).ticket = s.ticket
    ∧ (raise e d s).lineIn = s.lineIn
    ∧ (raise e d s).store = s.store
    ∧ (raise e d s).tables = s.tables
    ∧ (raise e d s).setup = s.setup
    ∧ (raise e d s).modes = s.modes
    ∧ (raise e d s).receiver = s.receiver
    ∧ (raise e d s).transmitter = s.transmitter
    ∧ (raise e d s).controller = s.controller
    ∧ (raise e d s).keyboard = s.keyboard
    ∧ (raise e d s).printer = s.printer
    ∧ (raise e d s).punch = s.punch
    ∧ (raise e d s).motor = s.motor
    ∧ (raise e d s).sense = s.sense
    ∧ (raise e d s).bell = s.bell
    ∧ (raise e d s).link = s.link
    ∧ (raise e d s).pending = s.pending := by
  refine ⟨?_, ?_, ?_, ?_, ?_, ?_, ?_, ?_, ?_, ?_, ?_, ?_, ?_, ?_, ?_, ?_, ?_, ?_⟩ <;> unfold raise <;> simp

/-- Unchanged by `clearEvent`. -/
@[simp] theorem clearEvent_frame (e : Fin 16) (s : State) :
    (clearEvent e s).now = s.now
    ∧ (clearEvent e s).ticket = s.ticket
    ∧ (clearEvent e s).lineIn = s.lineIn
    ∧ (clearEvent e s).store = s.store
    ∧ (clearEvent e s).tables = s.tables
    ∧ (clearEvent e s).setup = s.setup
    ∧ (clearEvent e s).modes = s.modes
    ∧ (clearEvent e s).receiver = s.receiver
    ∧ (clearEvent e s).transmitter = s.transmitter
    ∧ (clearEvent e s).controller = s.controller
    ∧ (clearEvent e s).keyboard = s.keyboard
    ∧ (clearEvent e s).printer = s.printer
    ∧ (clearEvent e s).punch = s.punch
    ∧ (clearEvent e s).motor = s.motor
    ∧ (clearEvent e s).sense = s.sense
    ∧ (clearEvent e s).bell = s.bell
    ∧ (clearEvent e s).link = s.link
    ∧ (clearEvent e s).pending = s.pending := by
  refine ⟨?_, ?_, ?_, ?_, ?_, ?_, ?_, ?_, ?_, ?_, ?_, ?_, ?_, ?_, ?_, ?_, ?_, ?_⟩ <;> unfold clearEvent <;> simp

/-- Unchanged by `raiseSenseChange`. -/
@[simp] theorem raiseSenseChange_frame  (s : State) :
    (raiseSenseChange s).now = s.now
    ∧ (raiseSenseChange s).ticket = s.ticket
    ∧ (raiseSenseChange s).lineIn = s.lineIn
    ∧ (raiseSenseChange s).store = s.store
    ∧ (raiseSenseChange s).tables = s.tables
    ∧ (raiseSenseChange s).setup = s.setup
    ∧ (raiseSenseChange s).modes = s.modes
    ∧ (raiseSenseChange s).receiver = s.receiver
    ∧ (raiseSenseChange s).transmitter = s.transmitter
    ∧ (raiseSenseChange s).controller = s.controller
    ∧ (raiseSenseChange s).keyboard = s.keyboard
    ∧ (raiseSenseChange s).printer = s.printer
    ∧ (raiseSenseChange s).punch = s.punch
    ∧ (raiseSenseChange s).motor = s.motor
    ∧ (raiseSenseChange s).sense = s.sense
    ∧ (raiseSenseChange s).bell = s.bell
    ∧ (raiseSenseChange s).link = s.link
    ∧ (raiseSenseChange s).pending = s.pending := by
  refine ⟨?_, ?_, ?_, ?_, ?_, ?_, ?_, ?_, ?_, ?_, ?_, ?_, ?_, ?_, ?_, ?_, ?_, ?_⟩ <;> unfold raiseSenseChange <;> (repeat' split) <;> simp

/-- Unchanged by `markReported`. -/
@[simp] theorem markReported_frame  (s : State) :
    (markReported s).now = s.now
    ∧ (markReported s).ticket = s.ticket
    ∧ (markReported s).lineIn = s.lineIn
    ∧ (markReported s).store = s.store
    ∧ (markReported s).tables = s.tables
    ∧ (markReported s).setup = s.setup
    ∧ (markReported s).modes = s.modes
    ∧ (markReported s).receiver = s.receiver
    ∧ (markReported s).transmitter = s.transmitter
    ∧ (markReported s).controller = s.controller
    ∧ (markReported s).keyboard = s.keyboard
    ∧ (markReported s).printer = s.printer
    ∧ (markReported s).punch = s.punch
    ∧ (markReported s).motor = s.motor
    ∧ (markReported s).bell = s.bell
    ∧ (markReported s).link = s.link
    ∧ (markReported s).events = s.events
    ∧ (markReported s).pending = s.pending := by
  refine ⟨?_, ?_, ?_, ?_, ?_, ?_, ?_, ?_, ?_, ?_, ?_, ?_, ?_, ?_, ?_, ?_, ?_, ?_⟩ <;> unfold markReported <;> simp

/-- Unchanged by `State.upTo`. -/
@[simp] theorem upTo_frame (t : Nat) (s : State) :
    (State.upTo s t).ticket = s.ticket
    ∧ (State.upTo s t).lineIn = s.lineIn
    ∧ (State.upTo s t).store = s.store
    ∧ (State.upTo s t).tables = s.tables
    ∧ (State.upTo s t).setup = s.setup
    ∧ (State.upTo s t).modes = s.modes
    ∧ (State.upTo s t).receiver = s.receiver
    ∧ (State.upTo s t).transmitter = s.transmitter
    ∧ (State.upTo s t).controller = s.controller
    ∧ (State.upTo s t).keyboard = s.keyboard
    ∧ (State.upTo s t).printer = s.printer
    ∧ (State.upTo s t).punch = s.punch
    ∧ (State.upTo s t).motor = s.motor
    ∧ (State.upTo s t).sense = s.sense
    ∧ (State.upTo s t).bell = s.bell
    ∧ (State.upTo s t).link = s.link
    ∧ (State.upTo s t).events = s.events
    ∧ (State.upTo s t).pending = s.pending := by
  refine ⟨?_, ?_, ?_, ?_, ?_, ?_, ?_, ?_, ?_, ?_, ?_, ?_, ?_, ?_, ?_, ?_, ?_, ?_⟩ <;> unfold State.upTo <;> simp

/-- Unchanged by `State.setRing`. -/
@[simp] theorem setRing_frame (i : RingId) (r : Ring) (s : State) :
    (State.setRing s i r).now = s.now
    ∧ (State.setRing s i r).ticket = s.ticket
    ∧ (State.setRing s i r).lineIn = s.lineIn
    ∧ (State.setRing s i r).tables = s.tables
    ∧ (State.setRing s i r).setup = s.setup
    ∧ (State.setRing s i r).modes = s.modes
    ∧ (State.setRing s i r).receiver = s.receiver
    ∧ (State.setRing s i r).transmitter = s.transmitter
    ∧ (State.setRing s i r).controller = s.controller
    ∧ (State.setRing s i r).keyboard = s.keyboard
    ∧ (State.setRing s i r).printer = s.printer
    ∧ (State.setRing s i r).punch = s.punch
    ∧ (State.setRing s i r).motor = s.motor
    ∧ (State.setRing s i r).sense = s.sense
    ∧ (State.setRing s i r).bell = s.bell
    ∧ (State.setRing s i r).link = s.link
    ∧ (State.setRing s i r).events = s.events
    ∧ (State.setRing s i r).pending = s.pending := by
  refine ⟨?_, ?_, ?_, ?_, ?_, ?_, ?_, ?_, ?_, ?_, ?_, ?_, ?_, ?_, ?_, ?_, ?_, ?_⟩ <;> unfold State.setRing <;> (try dsimp only) <;> simp

/-- Unchanged by `State.setCursor`. -/
@[simp] theorem setCursor_frame (c : CursorId) (v : Cursor) (s : State) :
    (State.setCursor s c v).now = s.now
    ∧ (State.setCursor s c v).ticket = s.ticket
    ∧ (State.setCursor s c v).lineIn = s.lineIn
    ∧ (State.setCursor s c v).tables = s.tables
    ∧ (State.setCursor s c v).setup = s.setup
    ∧ (State.setCursor s c v).modes = s.modes
    ∧ (State.setCursor s c v).receiver = s.receiver
    ∧ (State.setCursor s c v).transmitter = s.transmitter
    ∧ (State.setCursor s c v).controller = s.controller
    ∧ (State.setCursor s c v).keyboard = s.keyboard
    ∧ (State.setCursor s c v).printer = s.printer
    ∧ (State.setCursor s c v).punch = s.punch
    ∧ (State.setCursor s c v).motor = s.motor
    ∧ (State.setCursor s c v).sense = s.sense
    ∧ (State.setCursor s c v).bell = s.bell
    ∧ (State.setCursor s c v).link = s.link
    ∧ (State.setCursor s c v).events = s.events
    ∧ (State.setCursor s c v).pending = s.pending := by
  refine ⟨?_, ?_, ?_, ?_, ?_, ?_, ?_, ?_, ?_, ?_, ?_, ?_, ?_, ?_, ?_, ?_, ?_, ?_⟩ <;> unfold State.setCursor <;> (try dsimp only) <;> simp

/-- Unchanged by `appendEntry`. -/
@[simp] theorem appendEntry_frame (i : RingId) (e : Entry) (s : State) :
    (appendEntry i e s).now = s.now
    ∧ (appendEntry i e s).ticket = s.ticket
    ∧ (appendEntry i e s).lineIn = s.lineIn
    ∧ (appendEntry i e s).tables = s.tables
    ∧ (appendEntry i e s).setup = s.setup
    ∧ (appendEntry i e s).modes = s.modes
    ∧ (appendEntry i e s).receiver = s.receiver
    ∧ (appendEntry i e s).transmitter = s.transmitter
    ∧ (appendEntry i e s).controller = s.controller
    ∧ (appendEntry i e s).keyboard = s.keyboard
    ∧ (appendEntry i e s).printer = s.printer
    ∧ (appendEntry i e s).punch = s.punch
    ∧ (appendEntry i e s).motor = s.motor
    ∧ (appendEntry i e s).sense = s.sense
    ∧ (appendEntry i e s).bell = s.bell
    ∧ (appendEntry i e s).link = s.link
    ∧ (appendEntry i e s).events = s.events
    ∧ (appendEntry i e s).pending = s.pending := by
  refine ⟨?_, ?_, ?_, ?_, ?_, ?_, ?_, ?_, ?_, ?_, ?_, ?_, ?_, ?_, ?_, ?_, ?_, ?_⟩ <;> unfold appendEntry <;> (try dsimp only) <;> simp

/-- Unchanged by `lapCursor`. -/
@[simp] theorem lapCursor_frame (c : CursorId) (n : Nat) (s : State) :
    (lapCursor c n s).now = s.now
    ∧ (lapCursor c n s).ticket = s.ticket
    ∧ (lapCursor c n s).lineIn = s.lineIn
    ∧ (lapCursor c n s).tables = s.tables
    ∧ (lapCursor c n s).setup = s.setup
    ∧ (lapCursor c n s).modes = s.modes
    ∧ (lapCursor c n s).receiver = s.receiver
    ∧ (lapCursor c n s).transmitter = s.transmitter
    ∧ (lapCursor c n s).controller = s.controller
    ∧ (lapCursor c n s).keyboard = s.keyboard
    ∧ (lapCursor c n s).printer = s.printer
    ∧ (lapCursor c n s).punch = s.punch
    ∧ (lapCursor c n s).motor = s.motor
    ∧ (lapCursor c n s).sense = s.sense
    ∧ (lapCursor c n s).bell = s.bell
    ∧ (lapCursor c n s).link = s.link
    ∧ (lapCursor c n s).pending = s.pending := by
  refine ⟨?_, ?_, ?_, ?_, ?_, ?_, ?_, ?_, ?_, ?_, ?_, ?_, ?_, ?_, ?_, ?_, ?_⟩ <;> unfold lapCursor <;> (try dsimp only) <;> simp

/-- Unchanged by `lapIfOver`. -/
@[simp] theorem lapIfOver_frame (c : CursorId) (s : State) :
    (lapIfOver c s).now = s.now
    ∧ (lapIfOver c s).ticket = s.ticket
    ∧ (lapIfOver c s).lineIn = s.lineIn
    ∧ (lapIfOver c s).tables = s.tables
    ∧ (lapIfOver c s).setup = s.setup
    ∧ (lapIfOver c s).modes = s.modes
    ∧ (lapIfOver c s).receiver = s.receiver
    ∧ (lapIfOver c s).transmitter = s.transmitter
    ∧ (lapIfOver c s).controller = s.controller
    ∧ (lapIfOver c s).keyboard = s.keyboard
    ∧ (lapIfOver c s).printer = s.printer
    ∧ (lapIfOver c s).punch = s.punch
    ∧ (lapIfOver c s).motor = s.motor
    ∧ (lapIfOver c s).sense = s.sense
    ∧ (lapIfOver c s).bell = s.bell
    ∧ (lapIfOver c s).link = s.link
    ∧ (lapIfOver c s).pending = s.pending := by
  refine ⟨?_, ?_, ?_, ?_, ?_, ?_, ?_, ?_, ?_, ?_, ?_, ?_, ?_, ?_, ?_, ?_, ?_⟩ <;> unfold lapIfOver <;> (repeat' split) <;> simp

/-- Unchanged by `writeTraffic`. -/
@[simp] theorem writeTraffic_frame (e : Entry) (s : State) :
    (writeTraffic e s).now = s.now
    ∧ (writeTraffic e s).ticket = s.ticket
    ∧ (writeTraffic e s).lineIn = s.lineIn
    ∧ (writeTraffic e s).tables = s.tables
    ∧ (writeTraffic e s).setup = s.setup
    ∧ (writeTraffic e s).modes = s.modes
    ∧ (writeTraffic e s).receiver = s.receiver
    ∧ (writeTraffic e s).transmitter = s.transmitter
    ∧ (writeTraffic e s).controller = s.controller
    ∧ (writeTraffic e s).keyboard = s.keyboard
    ∧ (writeTraffic e s).printer = s.printer
    ∧ (writeTraffic e s).punch = s.punch
    ∧ (writeTraffic e s).motor = s.motor
    ∧ (writeTraffic e s).sense = s.sense
    ∧ (writeTraffic e s).bell = s.bell
    ∧ (writeTraffic e s).link = s.link
    ∧ (writeTraffic e s).pending = s.pending := by
  refine ⟨?_, ?_, ?_, ?_, ?_, ?_, ?_, ?_, ?_, ?_, ?_, ?_, ?_, ?_, ?_, ?_, ?_⟩ <;> unfold writeTraffic <;> simp

/-- Unchanged by `testLock`. -/
@[simp] theorem testLock_frame  (s : State) :
    (testLock s).now = s.now
    ∧ (testLock s).ticket = s.ticket
    ∧ (testLock s).lineIn = s.lineIn
    ∧ (testLock s).store = s.store
    ∧ (testLock s).tables = s.tables
    ∧ (testLock s).setup = s.setup
    ∧ (testLock s).modes = s.modes
    ∧ (testLock s).receiver = s.receiver
    ∧ (testLock s).transmitter = s.transmitter
    ∧ (testLock s).controller = s.controller
    ∧ (testLock s).printer = s.printer
    ∧ (testLock s).punch = s.punch
    ∧ (testLock s).motor = s.motor
    ∧ (testLock s).sense = s.sense
    ∧ (testLock s).bell = s.bell
    ∧ (testLock s).link = s.link
    ∧ (testLock s).events = s.events
    ∧ (testLock s).pending = s.pending := by
  refine ⟨?_, ?_, ?_, ?_, ?_, ?_, ?_, ?_, ?_, ?_, ?_, ?_, ?_, ?_, ?_, ?_, ?_, ?_⟩ <;> unfold testLock <;> (try dsimp only) <;> (repeat' split) <;> simp

/-- Unchanged by `testLockOn`. -/
@[simp] theorem testLockOn_frame (i : RingId) (s : State) :
    (testLockOn i s).now = s.now
    ∧ (testLockOn i s).ticket = s.ticket
    ∧ (testLockOn i s).lineIn = s.lineIn
    ∧ (testLockOn i s).store = s.store
    ∧ (testLockOn i s).tables = s.tables
    ∧ (testLockOn i s).setup = s.setup
    ∧ (testLockOn i s).modes = s.modes
    ∧ (testLockOn i s).receiver = s.receiver
    ∧ (testLockOn i s).transmitter = s.transmitter
    ∧ (testLockOn i s).controller = s.controller
    ∧ (testLockOn i s).printer = s.printer
    ∧ (testLockOn i s).punch = s.punch
    ∧ (testLockOn i s).motor = s.motor
    ∧ (testLockOn i s).sense = s.sense
    ∧ (testLockOn i s).bell = s.bell
    ∧ (testLockOn i s).link = s.link
    ∧ (testLockOn i s).events = s.events
    ∧ (testLockOn i s).pending = s.pending := by
  refine ⟨?_, ?_, ?_, ?_, ?_, ?_, ?_, ?_, ?_, ?_, ?_, ?_, ?_, ?_, ?_, ?_, ?_, ?_⟩ <;> unfold testLockOn <;> (repeat' split) <;> simp

/-- Unchanged by `advanceCursor`. -/
@[simp] theorem advanceCursor_frame (c : CursorId) (n : Nat) (s : State) :
    (advanceCursor c n s).now = s.now
    ∧ (advanceCursor c n s).ticket = s.ticket
    ∧ (advanceCursor c n s).lineIn = s.lineIn
    ∧ (advanceCursor c n s).tables = s.tables
    ∧ (advanceCursor c n s).setup = s.setup
    ∧ (advanceCursor c n s).modes = s.modes
    ∧ (advanceCursor c n s).receiver = s.receiver
    ∧ (advanceCursor c n s).transmitter = s.transmitter
    ∧ (advanceCursor c n s).controller = s.controller
    ∧ (advanceCursor c n s).keyboard = s.keyboard
    ∧ (advanceCursor c n s).printer = s.printer
    ∧ (advanceCursor c n s).punch = s.punch
    ∧ (advanceCursor c n s).motor = s.motor
    ∧ (advanceCursor c n s).sense = s.sense
    ∧ (advanceCursor c n s).bell = s.bell
    ∧ (advanceCursor c n s).link = s.link
    ∧ (advanceCursor c n s).events = s.events
    ∧ (advanceCursor c n s).pending = s.pending := by
  refine ⟨?_, ?_, ?_, ?_, ?_, ?_, ?_, ?_, ?_, ?_, ?_, ?_, ?_, ?_, ?_, ?_, ?_, ?_⟩ <;> unfold advanceCursor <;> (try dsimp only) <;> simp

/-- Unchanged by `returnEntry`. -/
@[simp] theorem returnEntry_frame (h : Held) (s : State) :
    (returnEntry h s).now = s.now
    ∧ (returnEntry h s).ticket = s.ticket
    ∧ (returnEntry h s).lineIn = s.lineIn
    ∧ (returnEntry h s).tables = s.tables
    ∧ (returnEntry h s).setup = s.setup
    ∧ (returnEntry h s).modes = s.modes
    ∧ (returnEntry h s).receiver = s.receiver
    ∧ (returnEntry h s).transmitter = s.transmitter
    ∧ (returnEntry h s).controller = s.controller
    ∧ (returnEntry h s).keyboard = s.keyboard
    ∧ (returnEntry h s).printer = s.printer
    ∧ (returnEntry h s).punch = s.punch
    ∧ (returnEntry h s).motor = s.motor
    ∧ (returnEntry h s).sense = s.sense
    ∧ (returnEntry h s).bell = s.bell
    ∧ (returnEntry h s).link = s.link
    ∧ (returnEntry h s).pending = s.pending := by
  refine ⟨?_, ?_, ?_, ?_, ?_, ?_, ?_, ?_, ?_, ?_, ?_, ?_, ?_, ?_, ?_, ?_, ?_⟩ <;> unfold returnEntry <;> (try dsimp only) <;> (repeat' split) <;> simp

/-- Unchanged by `detachCursor`. -/
@[simp] theorem detachCursor_frame (c : CursorId) (s : State) :
    (detachCursor c s).now = s.now
    ∧ (detachCursor c s).ticket = s.ticket
    ∧ (detachCursor c s).lineIn = s.lineIn
    ∧ (detachCursor c s).tables = s.tables
    ∧ (detachCursor c s).setup = s.setup
    ∧ (detachCursor c s).modes = s.modes
    ∧ (detachCursor c s).receiver = s.receiver
    ∧ (detachCursor c s).transmitter = s.transmitter
    ∧ (detachCursor c s).controller = s.controller
    ∧ (detachCursor c s).keyboard = s.keyboard
    ∧ (detachCursor c s).printer = s.printer
    ∧ (detachCursor c s).punch = s.punch
    ∧ (detachCursor c s).motor = s.motor
    ∧ (detachCursor c s).sense = s.sense
    ∧ (detachCursor c s).bell = s.bell
    ∧ (detachCursor c s).link = s.link
    ∧ (detachCursor c s).events = s.events
    ∧ (detachCursor c s).pending = s.pending := by
  refine ⟨?_, ?_, ?_, ?_, ?_, ?_, ?_, ?_, ?_, ?_, ?_, ?_, ?_, ?_, ?_, ?_, ?_, ?_⟩ <;> unfold detachCursor <;> (try dsimp only) <;> simp

/-- Unchanged by `attachCursor`. -/
@[simp] theorem attachCursor_frame (c : CursorId) (s : State) :
    (attachCursor c s).now = s.now
    ∧ (attachCursor c s).ticket = s.ticket
    ∧ (attachCursor c s).lineIn = s.lineIn
    ∧ (attachCursor c s).tables = s.tables
    ∧ (attachCursor c s).setup = s.setup
    ∧ (attachCursor c s).modes = s.modes
    ∧ (attachCursor c s).receiver = s.receiver
    ∧ (attachCursor c s).transmitter = s.transmitter
    ∧ (attachCursor c s).controller = s.controller
    ∧ (attachCursor c s).keyboard = s.keyboard
    ∧ (attachCursor c s).printer = s.printer
    ∧ (attachCursor c s).punch = s.punch
    ∧ (attachCursor c s).motor = s.motor
    ∧ (attachCursor c s).sense = s.sense
    ∧ (attachCursor c s).bell = s.bell
    ∧ (attachCursor c s).link = s.link
    ∧ (attachCursor c s).pending = s.pending := by
  refine ⟨?_, ?_, ?_, ?_, ?_, ?_, ?_, ?_, ?_, ?_, ?_, ?_, ?_, ?_, ?_, ?_, ?_⟩ <;> unfold attachCursor <;> (try dsimp only) <;> (repeat' split) <;> simp

/-- Unchanged by `setUnread`. -/
@[simp] theorem setUnread_frame (c : CursorId) (n : Nat) (s : State) :
    (setUnread c n s).now = s.now
    ∧ (setUnread c n s).ticket = s.ticket
    ∧ (setUnread c n s).lineIn = s.lineIn
    ∧ (setUnread c n s).tables = s.tables
    ∧ (setUnread c n s).setup = s.setup
    ∧ (setUnread c n s).modes = s.modes
    ∧ (setUnread c n s).receiver = s.receiver
    ∧ (setUnread c n s).transmitter = s.transmitter
    ∧ (setUnread c n s).controller = s.controller
    ∧ (setUnread c n s).keyboard = s.keyboard
    ∧ (setUnread c n s).printer = s.printer
    ∧ (setUnread c n s).punch = s.punch
    ∧ (setUnread c n s).motor = s.motor
    ∧ (setUnread c n s).sense = s.sense
    ∧ (setUnread c n s).bell = s.bell
    ∧ (setUnread c n s).link = s.link
    ∧ (setUnread c n s).events = s.events
    ∧ (setUnread c n s).pending = s.pending := by
  refine ⟨?_, ?_, ?_, ?_, ?_, ?_, ?_, ?_, ?_, ?_, ?_, ?_, ?_, ?_, ?_, ?_, ?_, ?_⟩ <;> unfold setUnread <;> (try dsimp only) <;> simp

/-- Unchanged by `resetRings`. -/
@[simp] theorem resetRings_frame  (s : State) :
    (resetRings s).now = s.now
    ∧ (resetRings s).ticket = s.ticket
    ∧ (resetRings s).lineIn = s.lineIn
    ∧ (resetRings s).tables = s.tables
    ∧ (resetRings s).setup = s.setup
    ∧ (resetRings s).modes = s.modes
    ∧ (resetRings s).receiver = s.receiver
    ∧ (resetRings s).transmitter = s.transmitter
    ∧ (resetRings s).printer = s.printer
    ∧ (resetRings s).punch = s.punch
    ∧ (resetRings s).motor = s.motor
    ∧ (resetRings s).sense = s.sense
    ∧ (resetRings s).bell = s.bell
    ∧ (resetRings s).link = s.link
    ∧ (resetRings s).events = s.events
    ∧ (resetRings s).pending = s.pending := by
  refine ⟨?_, ?_, ?_, ?_, ?_, ?_, ?_, ?_, ?_, ?_, ?_, ?_, ?_, ?_, ?_, ?_⟩ <;> unfold resetRings <;> (try dsimp only) <;> simp

/-- Unchanged by `setWriterPlane`. -/
@[simp] theorem setWriterPlane_frame (i : RingId) (p : Plane) (s : State) :
    (setWriterPlane i p s).now = s.now
    ∧ (setWriterPlane i p s).ticket = s.ticket
    ∧ (setWriterPlane i p s).lineIn = s.lineIn
    ∧ (setWriterPlane i p s).tables = s.tables
    ∧ (setWriterPlane i p s).setup = s.setup
    ∧ (setWriterPlane i p s).modes = s.modes
    ∧ (setWriterPlane i p s).receiver = s.receiver
    ∧ (setWriterPlane i p s).transmitter = s.transmitter
    ∧ (setWriterPlane i p s).controller = s.controller
    ∧ (setWriterPlane i p s).keyboard = s.keyboard
    ∧ (setWriterPlane i p s).printer = s.printer
    ∧ (setWriterPlane i p s).punch = s.punch
    ∧ (setWriterPlane i p s).motor = s.motor
    ∧ (setWriterPlane i p s).sense = s.sense
    ∧ (setWriterPlane i p s).bell = s.bell
    ∧ (setWriterPlane i p s).link = s.link
    ∧ (setWriterPlane i p s).events = s.events
    ∧ (setWriterPlane i p s).pending = s.pending := by
  refine ⟨?_, ?_, ?_, ?_, ?_, ?_, ?_, ?_, ?_, ?_, ?_, ?_, ?_, ?_, ?_, ?_, ?_, ?_⟩ <;> unfold setWriterPlane <;> (try dsimp only) <;> (repeat' split) <;> simp

/-- Text writing touches the store alone. -/
theorem putText_frame (i : RingId) (o : Origin) (xs : List (Code × Plane)) :
    ∀ s : State, putText i o xs s = s.setStore (putText i o xs s).store := by
  induction xs with
  | nil => intro s; rfl
  | cons x xs ih =>
    intro s
    obtain ⟨c, p⟩ := x
    simp only [putText]
    rw [ih]
    cases i <;> rfl

/-- A character that fits touches the store alone. -/
theorem putChar_frame {i : RingId} {o : Origin} {need : Option Plane} {c : Code} {s t : State}
    (h : putChar i o need c s = some t) : t = s.setStore t.store := by
  unfold putChar at h
  dsimp only at h
  split at h
  · cases h
    exact putText_frame i o _ s
  · cases h

/-- A host write of text touches the store alone. -/
theorem writeHostText_frame (i : RingId) (hs : List Byte) :
    ∀ (a k : Nat) (s : State), (writeHostText i hs a k s).state = s.setStore (writeHostText i hs a k s).state.store := by
  induction hs with
  | nil => intro a k s; rfl
  | cons h hs ih =>
    intro a k s
    simp only [writeHostText]
    split
    · exact ih a (k + 1) s
    · split
      · rfl
      · rename_i t ht
        have e := putChar_frame ht
        have := ih (a + 1) k t
        rw [this]
        rw [e]
        rfl

/-- A host write of codes touches the store alone. -/
theorem writeHostCodes_frame (i : RingId) (bs : List Byte) :
    ∀ (a : Nat) (s : State), (writeHostCodes i bs a s).state = s.setStore (writeHostCodes i bs a s).state.store := by
  induction bs with
  | nil => intro a s; rfl
  | cons b bs ih =>
    intro a s
    simp only [writeHostCodes]
    split
    · rfl
    · rename_i t ht
      have e := putChar_frame ht
      have := ih (a + 1) t
      rw [this]
      rw [e]
      rfl

/-- What a take does: the entry at R, R one on, and the lock test (R17, R119). -/
theorem takeEntry_eq {c : CursorId} {s t : State} {e : Entry} (h : takeEntry c s = some (e, t)) :
    entryBack s c.ring (unread s c) = some e ∧ t = testLockOn c.ring (advanceCursor c 1 s) := by
  unfold takeEntry at h
  split at h
  · cases h
  · rename_i e' he
    cases h
    exact ⟨he, rfl⟩

end Sys2Proof.Machine
end

