-- ==== Sys2Proof/Laws/OpsFrames.lean ====
section
/-! SUPPORT. The fields that the shared operations of the engines, the line and the motor leave alone. -/

namespace Sys2Proof.Machine

/-- Unchanged by `ringBell`. -/
@[simp] theorem ringBell_frame (n : Nat) (s : State) :
    (ringBell n s).now = s.now
    ∧ (ringBell n s).ticket = s.ticket
    ∧ (ringBell n s).lineIn = s.lineIn
    ∧ (ringBell n s).store = s.store
    ∧ (ringBell n s).tables = s.tables
    ∧ (ringBell n s).setup = s.setup
    ∧ (ringBell n s).modes = s.modes
    ∧ (ringBell n s).receiver = s.receiver
    ∧ (ringBell n s).transmitter = s.transmitter
    ∧ (ringBell n s).controller = s.controller
    ∧ (ringBell n s).keyboard = s.keyboard
    ∧ (ringBell n s).printer = s.printer
    ∧ (ringBell n s).punch = s.punch
    ∧ (ringBell n s).motor = s.motor
    ∧ (ringBell n s).sense = s.sense
    ∧ (ringBell n s).link = s.link
    ∧ (ringBell n s).events = s.events
    ∧ (ringBell n s).pending = s.pending := by
  refine ⟨?_, ?_, ?_, ?_, ?_, ?_, ?_, ?_, ?_, ?_, ?_, ?_, ?_, ?_, ?_, ?_, ?_, ?_⟩ <;> unfold ringBell <;> (try dsimp only) <;> simp

/-- Unchanged by `loadIdle`. -/
@[simp] theorem loadIdle_frame  (s : State) :
    (loadIdle s).now = s.now
    ∧ (loadIdle s).ticket = s.ticket
    ∧ (loadIdle s).lineIn = s.lineIn
    ∧ (loadIdle s).store = s.store
    ∧ (loadIdle s).tables = s.tables
    ∧ (loadIdle s).setup = s.setup
    ∧ (loadIdle s).modes = s.modes
    ∧ (loadIdle s).receiver = s.receiver
    ∧ (loadIdle s).transmitter = s.transmitter
    ∧ (loadIdle s).controller = s.controller
    ∧ (loadIdle s).keyboard = s.keyboard
    ∧ (loadIdle s).printer = s.printer
    ∧ (loadIdle s).punch = s.punch
    ∧ (loadIdle s).sense = s.sense
    ∧ (loadIdle s).bell = s.bell
    ∧ (loadIdle s).link = s.link
    ∧ (loadIdle s).events = s.events
    ∧ (loadIdle s).pending = s.pending := by
  refine ⟨?_, ?_, ?_, ?_, ?_, ?_, ?_, ?_, ?_, ?_, ?_, ?_, ?_, ?_, ?_, ?_, ?_, ?_⟩ <;> unfold loadIdle <;> (try dsimp only) <;> (repeat' split) <;> simp

/-- Unchanged by `haltSending`. -/
@[simp] theorem haltSending_frame (r : HaltReason) (s : State) :
    (haltSending r s).now = s.now
    ∧ (haltSending r s).ticket = s.ticket
    ∧ (haltSending r s).lineIn = s.lineIn
    ∧ (haltSending r s).store = s.store
    ∧ (haltSending r s).tables = s.tables
    ∧ (haltSending r s).setup = s.setup
    ∧ (haltSending r s).modes = s.modes
    ∧ (haltSending r s).receiver = s.receiver
    ∧ (haltSending r s).controller = s.controller
    ∧ (haltSending r s).keyboard = s.keyboard
    ∧ (haltSending r s).printer = s.printer
    ∧ (haltSending r s).punch = s.punch
    ∧ (haltSending r s).motor = s.motor
    ∧ (haltSending r s).sense = s.sense
    ∧ (haltSending r s).bell = s.bell
    ∧ (haltSending r s).link = s.link
    ∧ (haltSending r s).pending = s.pending := by
  refine ⟨?_, ?_, ?_, ?_, ?_, ?_, ?_, ?_, ?_, ?_, ?_, ?_, ?_, ?_, ?_, ?_, ?_⟩ <;> unfold haltSending <;> (try dsimp only) <;> (repeat' split) <;> simp

/-- Unchanged by `requestAnswerBack`. -/
@[simp] theorem requestAnswerBack_frame (w : Bool) (s : State) :
    (requestAnswerBack w s).now = s.now
    ∧ (requestAnswerBack w s).ticket = s.ticket
    ∧ (requestAnswerBack w s).lineIn = s.lineIn
    ∧ (requestAnswerBack w s).store = s.store
    ∧ (requestAnswerBack w s).tables = s.tables
    ∧ (requestAnswerBack w s).setup = s.setup
    ∧ (requestAnswerBack w s).modes = s.modes
    ∧ (requestAnswerBack w s).receiver = s.receiver
    ∧ (requestAnswerBack w s).controller = s.controller
    ∧ (requestAnswerBack w s).keyboard = s.keyboard
    ∧ (requestAnswerBack w s).printer = s.printer
    ∧ (requestAnswerBack w s).punch = s.punch
    ∧ (requestAnswerBack w s).motor = s.motor
    ∧ (requestAnswerBack w s).sense = s.sense
    ∧ (requestAnswerBack w s).bell = s.bell
    ∧ (requestAnswerBack w s).link = s.link
    ∧ (requestAnswerBack w s).events = s.events
    ∧ (requestAnswerBack w s).pending = s.pending := by
  refine ⟨?_, ?_, ?_, ?_, ?_, ?_, ?_, ?_, ?_, ?_, ?_, ?_, ?_, ?_, ?_, ?_, ?_, ?_⟩ <;> unfold requestAnswerBack <;> (try dsimp only) <;> (repeat' split) <;> simp

/-- Unchanged by `requestBreak`. -/
@[simp] theorem requestBreak_frame  (s : State) :
    (requestBreak s).now = s.now
    ∧ (requestBreak s).ticket = s.ticket
    ∧ (requestBreak s).lineIn = s.lineIn
    ∧ (requestBreak s).store = s.store
    ∧ (requestBreak s).tables = s.tables
    ∧ (requestBreak s).setup = s.setup
    ∧ (requestBreak s).modes = s.modes
    ∧ (requestBreak s).receiver = s.receiver
    ∧ (requestBreak s).controller = s.controller
    ∧ (requestBreak s).keyboard = s.keyboard
    ∧ (requestBreak s).printer = s.printer
    ∧ (requestBreak s).punch = s.punch
    ∧ (requestBreak s).motor = s.motor
    ∧ (requestBreak s).sense = s.sense
    ∧ (requestBreak s).bell = s.bell
    ∧ (requestBreak s).link = s.link
    ∧ (requestBreak s).events = s.events
    ∧ (requestBreak s).pending = s.pending := by
  refine ⟨?_, ?_, ?_, ?_, ?_, ?_, ?_, ?_, ?_, ?_, ?_, ?_, ?_, ?_, ?_, ?_, ?_, ?_⟩ <;> unfold requestBreak <;> (try dsimp only) <;> (repeat' split) <;> simp

/-- Unchanged by `returnPrinterHeld`. -/
@[simp] theorem returnPrinterHeld_frame  (s : State) :
    (returnPrinterHeld s).now = s.now
    ∧ (returnPrinterHeld s).ticket = s.ticket
    ∧ (returnPrinterHeld s).lineIn = s.lineIn
    ∧ (returnPrinterHeld s).tables = s.tables
    ∧ (returnPrinterHeld s).setup = s.setup
    ∧ (returnPrinterHeld s).modes = s.modes
    ∧ (returnPrinterHeld s).receiver = s.receiver
    ∧ (returnPrinterHeld s).transmitter = s.transmitter
    ∧ (returnPrinterHeld s).controller = s.controller
    ∧ (returnPrinterHeld s).keyboard = s.keyboard
    ∧ (returnPrinterHeld s).punch = s.punch
    ∧ (returnPrinterHeld s).motor = s.motor
    ∧ (returnPrinterHeld s).sense = s.sense
    ∧ (returnPrinterHeld s).bell = s.bell
    ∧ (returnPrinterHeld s).link = s.link
    ∧ (returnPrinterHeld s).pending = s.pending := by
  refine ⟨?_, ?_, ?_, ?_, ?_, ?_, ?_, ?_, ?_, ?_, ?_, ?_, ?_, ?_, ?_, ?_⟩ <;> unfold returnPrinterHeld <;> (try dsimp only) <;> (repeat' split) <;> simp

/-- Unchanged by `returnPunchHeld`. -/
@[simp] theorem returnPunchHeld_frame  (s : State) :
    (returnPunchHeld s).now = s.now
    ∧ (returnPunchHeld s).ticket = s.ticket
    ∧ (returnPunchHeld s).lineIn = s.lineIn
    ∧ (returnPunchHeld s).tables = s.tables
    ∧ (returnPunchHeld s).setup = s.setup
    ∧ (returnPunchHeld s).modes = s.modes
    ∧ (returnPunchHeld s).receiver = s.receiver
    ∧ (returnPunchHeld s).transmitter = s.transmitter
    ∧ (returnPunchHeld s).controller = s.controller
    ∧ (returnPunchHeld s).keyboard = s.keyboard
    ∧ (returnPunchHeld s).printer = s.printer
    ∧ (returnPunchHeld s).motor = s.motor
    ∧ (returnPunchHeld s).sense = s.sense
    ∧ (returnPunchHeld s).bell = s.bell
    ∧ (returnPunchHeld s).link = s.link
    ∧ (returnPunchHeld s).pending = s.pending := by
  refine ⟨?_, ?_, ?_, ?_, ?_, ?_, ?_, ?_, ?_, ?_, ?_, ?_, ?_, ?_, ?_, ?_⟩ <;> unfold returnPunchHeld <;> (try dsimp only) <;> (repeat' split) <;> simp

/-- Unchanged by `haltPrinter`. -/
@[simp] theorem haltPrinter_frame (f : PrinterHalts → PrinterHalts) (s : State) :
    (haltPrinter f s).now = s.now
    ∧ (haltPrinter f s).ticket = s.ticket
    ∧ (haltPrinter f s).lineIn = s.lineIn
    ∧ (haltPrinter f s).tables = s.tables
    ∧ (haltPrinter f s).setup = s.setup
    ∧ (haltPrinter f s).modes = s.modes
    ∧ (haltPrinter f s).receiver = s.receiver
    ∧ (haltPrinter f s).transmitter = s.transmitter
    ∧ (haltPrinter f s).controller = s.controller
    ∧ (haltPrinter f s).keyboard = s.keyboard
    ∧ (haltPrinter f s).punch = s.punch
    ∧ (haltPrinter f s).motor = s.motor
    ∧ (haltPrinter f s).sense = s.sense
    ∧ (haltPrinter f s).bell = s.bell
    ∧ (haltPrinter f s).link = s.link
    ∧ (haltPrinter f s).pending = s.pending := by
  refine ⟨?_, ?_, ?_, ?_, ?_, ?_, ?_, ?_, ?_, ?_, ?_, ?_, ?_, ?_, ?_, ?_⟩ <;> unfold haltPrinter <;> (try dsimp only) <;> (repeat' split) <;> simp

/-- Unchanged by `haltPunch`. -/
@[simp] theorem haltPunch_frame (f : PunchHalts → PunchHalts) (s : State) :
    (haltPunch f s).now = s.now
    ∧ (haltPunch f s).ticket = s.ticket
    ∧ (haltPunch f s).lineIn = s.lineIn
    ∧ (haltPunch f s).tables = s.tables
    ∧ (haltPunch f s).setup = s.setup
    ∧ (haltPunch f s).modes = s.modes
    ∧ (haltPunch f s).receiver = s.receiver
    ∧ (haltPunch f s).transmitter = s.transmitter
    ∧ (haltPunch f s).controller = s.controller
    ∧ (haltPunch f s).keyboard = s.keyboard
    ∧ (haltPunch f s).printer = s.printer
    ∧ (haltPunch f s).motor = s.motor
    ∧ (haltPunch f s).sense = s.sense
    ∧ (haltPunch f s).bell = s.bell
    ∧ (haltPunch f s).link = s.link
    ∧ (haltPunch f s).pending = s.pending := by
  refine ⟨?_, ?_, ?_, ?_, ?_, ?_, ?_, ?_, ?_, ?_, ?_, ?_, ?_, ?_, ?_, ?_⟩ <;> unfold haltPunch <;> (try dsimp only) <;> (repeat' split) <;> simp

/-- Unchanged by `forgetRun`. -/
@[simp] theorem forgetRun_frame  (s : State) :
    (forgetRun s).now = s.now
    ∧ (forgetRun s).ticket = s.ticket
    ∧ (forgetRun s).lineIn = s.lineIn
    ∧ (forgetRun s).store = s.store
    ∧ (forgetRun s).tables = s.tables
    ∧ (forgetRun s).setup = s.setup
    ∧ (forgetRun s).modes = s.modes
    ∧ (forgetRun s).receiver = s.receiver
    ∧ (forgetRun s).transmitter = s.transmitter
    ∧ (forgetRun s).controller = s.controller
    ∧ (forgetRun s).keyboard = s.keyboard
    ∧ (forgetRun s).printer = s.printer
    ∧ (forgetRun s).motor = s.motor
    ∧ (forgetRun s).sense = s.sense
    ∧ (forgetRun s).bell = s.bell
    ∧ (forgetRun s).link = s.link
    ∧ (forgetRun s).events = s.events
    ∧ (forgetRun s).pending = s.pending := by
  refine ⟨?_, ?_, ?_, ?_, ?_, ?_, ?_, ?_, ?_, ?_, ?_, ?_, ?_, ?_, ?_, ?_, ?_, ?_⟩ <;> unfold forgetRun <;> (try dsimp only) <;> simp

/-- Unchanged by `divertPunch`. -/
@[simp] theorem divertPunch_frame  (s : State) :
    (divertPunch s).now = s.now
    ∧ (divertPunch s).ticket = s.ticket
    ∧ (divertPunch s).lineIn = s.lineIn
    ∧ (divertPunch s).tables = s.tables
    ∧ (divertPunch s).setup = s.setup
    ∧ (divertPunch s).receiver = s.receiver
    ∧ (divertPunch s).transmitter = s.transmitter
    ∧ (divertPunch s).controller = s.controller
    ∧ (divertPunch s).keyboard = s.keyboard
    ∧ (divertPunch s).printer = s.printer
    ∧ (divertPunch s).motor = s.motor
    ∧ (divertPunch s).sense = s.sense
    ∧ (divertPunch s).bell = s.bell
    ∧ (divertPunch s).link = s.link
    ∧ (divertPunch s).pending = s.pending := by
  refine ⟨?_, ?_, ?_, ?_, ?_, ?_, ?_, ?_, ?_, ?_, ?_, ?_, ?_, ?_, ?_⟩ <;> unfold divertPunch <;> (try dsimp only) <;> (repeat' split) <;> simp

/-- Unchanged by `paperOutSet`. -/
@[simp] theorem paperOutSet_frame  (s : State) :
    (paperOutSet s).now = s.now
    ∧ (paperOutSet s).ticket = s.ticket
    ∧ (paperOutSet s).lineIn = s.lineIn
    ∧ (paperOutSet s).tables = s.tables
    ∧ (paperOutSet s).setup = s.setup
    ∧ (paperOutSet s).receiver = s.receiver
    ∧ (paperOutSet s).transmitter = s.transmitter
    ∧ (paperOutSet s).controller = s.controller
    ∧ (paperOutSet s).keyboard = s.keyboard
    ∧ (paperOutSet s).motor = s.motor
    ∧ (paperOutSet s).sense = s.sense
    ∧ (paperOutSet s).link = s.link
    ∧ (paperOutSet s).pending = s.pending := by
  refine ⟨?_, ?_, ?_, ?_, ?_, ?_, ?_, ?_, ?_, ?_, ?_, ?_, ?_⟩ <;> unfold paperOutSet <;> (try dsimp only) <;> (repeat' split) <;> simp

/-- Unchanged by `tapeOutSet`. -/
@[simp] theorem tapeOutSet_frame  (s : State) :
    (tapeOutSet s).now = s.now
    ∧ (tapeOutSet s).ticket = s.ticket
    ∧ (tapeOutSet s).lineIn = s.lineIn
    ∧ (tapeOutSet s).tables = s.tables
    ∧ (tapeOutSet s).setup = s.setup
    ∧ (tapeOutSet s).modes = s.modes
    ∧ (tapeOutSet s).receiver = s.receiver
    ∧ (tapeOutSet s).transmitter = s.transmitter
    ∧ (tapeOutSet s).controller = s.controller
    ∧ (tapeOutSet s).keyboard = s.keyboard
    ∧ (tapeOutSet s).printer = s.printer
    ∧ (tapeOutSet s).motor = s.motor
    ∧ (tapeOutSet s).sense = s.sense
    ∧ (tapeOutSet s).bell = s.bell
    ∧ (tapeOutSet s).link = s.link
    ∧ (tapeOutSet s).pending = s.pending := by
  refine ⟨?_, ?_, ?_, ?_, ?_, ?_, ?_, ?_, ?_, ?_, ?_, ?_, ?_, ?_, ?_, ?_⟩ <;> unfold tapeOutSet <;> simp

/-- Unchanged by `coverOpenSet`. -/
@[simp] theorem coverOpenSet_frame  (s : State) :
    (coverOpenSet s).now = s.now
    ∧ (coverOpenSet s).ticket = s.ticket
    ∧ (coverOpenSet s).lineIn = s.lineIn
    ∧ (coverOpenSet s).tables = s.tables
    ∧ (coverOpenSet s).setup = s.setup
    ∧ (coverOpenSet s).modes = s.modes
    ∧ (coverOpenSet s).receiver = s.receiver
    ∧ (coverOpenSet s).transmitter = s.transmitter
    ∧ (coverOpenSet s).controller = s.controller
    ∧ (coverOpenSet s).keyboard = s.keyboard
    ∧ (coverOpenSet s).motor = s.motor
    ∧ (coverOpenSet s).sense = s.sense
    ∧ (coverOpenSet s).bell = s.bell
    ∧ (coverOpenSet s).link = s.link
    ∧ (coverOpenSet s).pending = s.pending := by
  refine ⟨?_, ?_, ?_, ?_, ?_, ?_, ?_, ?_, ?_, ?_, ?_, ?_, ?_, ?_, ?_⟩ <;> unfold coverOpenSet <;> simp

/-- Unchanged by `changeStation`. -/
@[simp] theorem changeStation_frame (m : StationMode) (s : State) :
    (changeStation m s).now = s.now
    ∧ (changeStation m s).ticket = s.ticket
    ∧ (changeStation m s).lineIn = s.lineIn
    ∧ (changeStation m s).tables = s.tables
    ∧ (changeStation m s).setup = s.setup
    ∧ (changeStation m s).receiver = s.receiver
    ∧ (changeStation m s).transmitter = s.transmitter
    ∧ (changeStation m s).controller = s.controller
    ∧ (changeStation m s).punch = s.punch
    ∧ (changeStation m s).motor = s.motor
    ∧ (changeStation m s).sense = s.sense
    ∧ (changeStation m s).bell = s.bell
    ∧ (changeStation m s).link = s.link
    ∧ (changeStation m s).pending = s.pending := by
  refine ⟨?_, ?_, ?_, ?_, ?_, ?_, ?_, ?_, ?_, ?_, ?_, ?_, ?_, ?_⟩ <;> unfold changeStation <;> (try dsimp only) <;> (repeat' split) <;> simp

/-- Unchanged by `leaveSource`. -/
@[simp] theorem leaveSource_frame (c : Option CursorId) (s : State) :
    (leaveSource c s).now = s.now
    ∧ (leaveSource c s).ticket = s.ticket
    ∧ (leaveSource c s).lineIn = s.lineIn
    ∧ (leaveSource c s).tables = s.tables
    ∧ (leaveSource c s).setup = s.setup
    ∧ (leaveSource c s).modes = s.modes
    ∧ (leaveSource c s).receiver = s.receiver
    ∧ (leaveSource c s).transmitter = s.transmitter
    ∧ (leaveSource c s).controller = s.controller
    ∧ (leaveSource c s).printer = s.printer
    ∧ (leaveSource c s).punch = s.punch
    ∧ (leaveSource c s).motor = s.motor
    ∧ (leaveSource c s).sense = s.sense
    ∧ (leaveSource c s).bell = s.bell
    ∧ (leaveSource c s).link = s.link
    ∧ (leaveSource c s).events = s.events
    ∧ (leaveSource c s).pending = s.pending := by
  refine ⟨?_, ?_, ?_, ?_, ?_, ?_, ?_, ?_, ?_, ?_, ?_, ?_, ?_, ?_, ?_, ?_, ?_⟩ <;> unfold leaveSource <;> (repeat' split) <;> simp

/-- Unchanged by `joinSource`. -/
@[simp] theorem joinSource_frame (c : Option CursorId) (s : State) :
    (joinSource c s).now = s.now
    ∧ (joinSource c s).ticket = s.ticket
    ∧ (joinSource c s).lineIn = s.lineIn
    ∧ (joinSource c s).tables = s.tables
    ∧ (joinSource c s).setup = s.setup
    ∧ (joinSource c s).modes = s.modes
    ∧ (joinSource c s).receiver = s.receiver
    ∧ (joinSource c s).transmitter = s.transmitter
    ∧ (joinSource c s).controller = s.controller
    ∧ (joinSource c s).keyboard = s.keyboard
    ∧ (joinSource c s).printer = s.printer
    ∧ (joinSource c s).punch = s.punch
    ∧ (joinSource c s).motor = s.motor
    ∧ (joinSource c s).sense = s.sense
    ∧ (joinSource c s).bell = s.bell
    ∧ (joinSource c s).link = s.link
    ∧ (joinSource c s).pending = s.pending := by
  refine ⟨?_, ?_, ?_, ?_, ?_, ?_, ?_, ?_, ?_, ?_, ?_, ?_, ?_, ?_, ?_, ?_, ?_⟩ <;> unfold joinSource <;> (repeat' split) <;> simp

/-- Unchanged by `changeSource`. -/
@[simp] theorem changeSource_frame (m : PunchSource) (s : State) :
    (changeSource m s).now = s.now
    ∧ (changeSource m s).ticket = s.ticket
    ∧ (changeSource m s).lineIn = s.lineIn
    ∧ (changeSource m s).tables = s.tables
    ∧ (changeSource m s).setup = s.setup
    ∧ (changeSource m s).receiver = s.receiver
    ∧ (changeSource m s).transmitter = s.transmitter
    ∧ (changeSource m s).controller = s.controller
    ∧ (changeSource m s).printer = s.printer
    ∧ (changeSource m s).motor = s.motor
    ∧ (changeSource m s).sense = s.sense
    ∧ (changeSource m s).bell = s.bell
    ∧ (changeSource m s).link = s.link
    ∧ (changeSource m s).pending = s.pending := by
  refine ⟨?_, ?_, ?_, ?_, ?_, ?_, ?_, ?_, ?_, ?_, ?_, ?_, ?_, ?_⟩ <;> unfold changeSource <;> (try dsimp only) <;> (repeat' split) <;> simp

/-- Unchanged by `setLine`. -/
@[simp] theorem setLine_frame (l : LineState) (s : State) :
    (setLine l s).now = s.now
    ∧ (setLine l s).ticket = s.ticket
    ∧ (setLine l s).lineIn = s.lineIn
    ∧ (setLine l s).store = s.store
    ∧ (setLine l s).tables = s.tables
    ∧ (setLine l s).setup = s.setup
    ∧ (setLine l s).modes = s.modes
    ∧ (setLine l s).receiver = s.receiver
    ∧ (setLine l s).transmitter = s.transmitter
    ∧ (setLine l s).keyboard = s.keyboard
    ∧ (setLine l s).printer = s.printer
    ∧ (setLine l s).punch = s.punch
    ∧ (setLine l s).motor = s.motor
    ∧ (setLine l s).sense = s.sense
    ∧ (setLine l s).bell = s.bell
    ∧ (setLine l s).link = s.link
    ∧ (setLine l s).events = s.events
    ∧ (setLine l s).pending = s.pending := by
  refine ⟨?_, ?_, ?_, ?_, ?_, ?_, ?_, ?_, ?_, ?_, ?_, ?_, ?_, ?_, ?_, ?_, ?_, ?_⟩ <;> unfold setLine <;> (try dsimp only) <;> simp

/-- Unchanged by `beginClearSpacing`. -/
@[simp] theorem beginClearSpacing_frame  (s : State) :
    (beginClearSpacing s).now = s.now
    ∧ (beginClearSpacing s).ticket = s.ticket
    ∧ (beginClearSpacing s).lineIn = s.lineIn
    ∧ (beginClearSpacing s).store = s.store
    ∧ (beginClearSpacing s).tables = s.tables
    ∧ (beginClearSpacing s).setup = s.setup
    ∧ (beginClearSpacing s).modes = s.modes
    ∧ (beginClearSpacing s).receiver = s.receiver
    ∧ (beginClearSpacing s).keyboard = s.keyboard
    ∧ (beginClearSpacing s).printer = s.printer
    ∧ (beginClearSpacing s).punch = s.punch
    ∧ (beginClearSpacing s).motor = s.motor
    ∧ (beginClearSpacing s).sense = s.sense
    ∧ (beginClearSpacing s).bell = s.bell
    ∧ (beginClearSpacing s).link = s.link
    ∧ (beginClearSpacing s).events = s.events
    ∧ (beginClearSpacing s).pending = s.pending := by
  refine ⟨?_, ?_, ?_, ?_, ?_, ?_, ?_, ?_, ?_, ?_, ?_, ?_, ?_, ?_, ?_, ?_, ?_⟩ <;> unfold beginClearSpacing <;> (try dsimp only) <;> simp

/-- Unchanged by `dropRequests`. -/
@[simp] theorem dropRequests_frame  (s : State) :
    (dropRequests s).now = s.now
    ∧ (dropRequests s).ticket = s.ticket
    ∧ (dropRequests s).lineIn = s.lineIn
    ∧ (dropRequests s).store = s.store
    ∧ (dropRequests s).tables = s.tables
    ∧ (dropRequests s).setup = s.setup
    ∧ (dropRequests s).modes = s.modes
    ∧ (dropRequests s).receiver = s.receiver
    ∧ (dropRequests s).controller = s.controller
    ∧ (dropRequests s).keyboard = s.keyboard
    ∧ (dropRequests s).printer = s.printer
    ∧ (dropRequests s).punch = s.punch
    ∧ (dropRequests s).motor = s.motor
    ∧ (dropRequests s).sense = s.sense
    ∧ (dropRequests s).bell = s.bell
    ∧ (dropRequests s).link = s.link
    ∧ (dropRequests s).events = s.events
    ∧ (dropRequests s).pending = s.pending := by
  refine ⟨?_, ?_, ?_, ?_, ?_, ?_, ?_, ?_, ?_, ?_, ?_, ?_, ?_, ?_, ?_, ?_, ?_, ?_⟩ <;> unfold dropRequests <;> (try dsimp only) <;> simp

/-- Unchanged by `endRequests`. -/
@[simp] theorem endRequests_frame (s : State) :
    (endRequests s).now = s.now
    ∧ (endRequests s).ticket = s.ticket
    ∧ (endRequests s).lineIn = s.lineIn
    ∧ (endRequests s).store = s.store
    ∧ (endRequests s).tables = s.tables
    ∧ (endRequests s).setup = s.setup
    ∧ (endRequests s).modes = s.modes
    ∧ (endRequests s).receiver = s.receiver
    ∧ (endRequests s).controller = s.controller
    ∧ (endRequests s).keyboard = s.keyboard
    ∧ (endRequests s).printer = s.printer
    ∧ (endRequests s).punch = s.punch
    ∧ (endRequests s).motor = s.motor
    ∧ (endRequests s).sense = s.sense
    ∧ (endRequests s).bell = s.bell
    ∧ (endRequests s).link = s.link
    ∧ (endRequests s).events = s.events
    ∧ (endRequests s).pending = s.pending := by
  refine ⟨?_, ?_, ?_, ?_, ?_, ?_, ?_, ?_, ?_, ?_, ?_, ?_, ?_, ?_, ?_, ?_, ?_, ?_⟩ <;> unfold endRequests <;> (try dsimp only) <;> (repeat' split) <;> simp

/-- The transmitter after `endRequests`: no break request, and of the sequencer what lasts until the character in
flight has ended. -/
theorem endRequests_transmitter (s : State) :
    (endRequests s).transmitter =
      { s.transmitter with
        sequencer :=
          if s.transmitter.state.isSending then s.transmitter.sequencer.withoutRequest else .empty
        breakPending := false } := by
  unfold endRequests dropRequests
  split <;> rfl

/-- Unchanged by `stopCounter`. -/
@[simp] theorem stopCounter_frame  (s : State) :
    (stopCounter s).now = s.now
    ∧ (stopCounter s).ticket = s.ticket
    ∧ (stopCounter s).lineIn = s.lineIn
    ∧ (stopCounter s).store = s.store
    ∧ (stopCounter s).tables = s.tables
    ∧ (stopCounter s).setup = s.setup
    ∧ (stopCounter s).modes = s.modes
    ∧ (stopCounter s).transmitter = s.transmitter
    ∧ (stopCounter s).controller = s.controller
    ∧ (stopCounter s).keyboard = s.keyboard
    ∧ (stopCounter s).printer = s.printer
    ∧ (stopCounter s).punch = s.punch
    ∧ (stopCounter s).motor = s.motor
    ∧ (stopCounter s).sense = s.sense
    ∧ (stopCounter s).bell = s.bell
    ∧ (stopCounter s).link = s.link
    ∧ (stopCounter s).events = s.events
    ∧ (stopCounter s).pending = s.pending := by
  refine ⟨?_, ?_, ?_, ?_, ?_, ?_, ?_, ?_, ?_, ?_, ?_, ?_, ?_, ?_, ?_, ?_, ?_, ?_⟩ <;> unfold stopCounter <;> (try dsimp only) <;> simp

/-- Unchanged by `enterClearing`. -/
@[simp] theorem enterClearing_frame  (s : State) :
    (enterClearing s).now = s.now
    ∧ (enterClearing s).ticket = s.ticket
    ∧ (enterClearing s).lineIn = s.lineIn
    ∧ (enterClearing s).store = s.store
    ∧ (enterClearing s).tables = s.tables
    ∧ (enterClearing s).setup = s.setup
    ∧ (enterClearing s).modes = s.modes
    ∧ (enterClearing s).keyboard = s.keyboard
    ∧ (enterClearing s).printer = s.printer
    ∧ (enterClearing s).punch = s.punch
    ∧ (enterClearing s).motor = s.motor
    ∧ (enterClearing s).sense = s.sense
    ∧ (enterClearing s).bell = s.bell
    ∧ (enterClearing s).link = s.link
    ∧ (enterClearing s).events = s.events
    ∧ (enterClearing s).pending = s.pending := by
  refine ⟨?_, ?_, ?_, ?_, ?_, ?_, ?_, ?_, ?_, ?_, ?_, ?_, ?_, ?_, ?_, ?_⟩ <;> unfold enterClearing <;> (try dsimp only) <;> (repeat' split) <;> simp

/-- Unchanged by `closeMarker`. -/
@[simp] theorem closeMarker_frame  (s : State) :
    (closeMarker s).now = s.now
    ∧ (closeMarker s).ticket = s.ticket
    ∧ (closeMarker s).lineIn = s.lineIn
    ∧ (closeMarker s).tables = s.tables
    ∧ (closeMarker s).setup = s.setup
    ∧ (closeMarker s).modes = s.modes
    ∧ (closeMarker s).receiver = s.receiver
    ∧ (closeMarker s).transmitter = s.transmitter
    ∧ (closeMarker s).keyboard = s.keyboard
    ∧ (closeMarker s).printer = s.printer
    ∧ (closeMarker s).punch = s.punch
    ∧ (closeMarker s).motor = s.motor
    ∧ (closeMarker s).sense = s.sense
    ∧ (closeMarker s).bell = s.bell
    ∧ (closeMarker s).link = s.link
    ∧ (closeMarker s).pending = s.pending := by
  refine ⟨?_, ?_, ?_, ?_, ?_, ?_, ?_, ?_, ?_, ?_, ?_, ?_, ?_, ?_, ?_, ?_⟩ <;> unfold closeMarker <;> (try dsimp only) <;> (repeat' split) <;> simp

/-- Unchanged by `openMarker`. -/
@[simp] theorem openMarker_frame  (s : State) :
    (openMarker s).now = s.now
    ∧ (openMarker s).ticket = s.ticket
    ∧ (openMarker s).lineIn = s.lineIn
    ∧ (openMarker s).tables = s.tables
    ∧ (openMarker s).setup = s.setup
    ∧ (openMarker s).modes = s.modes
    ∧ (openMarker s).receiver = s.receiver
    ∧ (openMarker s).transmitter = s.transmitter
    ∧ (openMarker s).keyboard = s.keyboard
    ∧ (openMarker s).printer = s.printer
    ∧ (openMarker s).punch = s.punch
    ∧ (openMarker s).motor = s.motor
    ∧ (openMarker s).sense = s.sense
    ∧ (openMarker s).bell = s.bell
    ∧ (openMarker s).link = s.link
    ∧ (openMarker s).pending = s.pending := by
  refine ⟨?_, ?_, ?_, ?_, ?_, ?_, ?_, ?_, ?_, ?_, ?_, ?_, ?_, ?_, ?_, ?_⟩ <;> unfold openMarker <;> (try dsimp only) <;> (repeat' split) <;> simp

/-- Unchanged by `enterFree`. -/
@[simp] theorem enterFree_frame  (s : State) :
    (enterFree s).now = s.now
    ∧ (enterFree s).ticket = s.ticket
    ∧ (enterFree s).lineIn = s.lineIn
    ∧ (enterFree s).tables = s.tables
    ∧ (enterFree s).setup = s.setup
    ∧ (enterFree s).modes = s.modes
    ∧ (enterFree s).keyboard = s.keyboard
    ∧ (enterFree s).printer = s.printer
    ∧ (enterFree s).punch = s.punch
    ∧ (enterFree s).motor = s.motor
    ∧ (enterFree s).sense = s.sense
    ∧ (enterFree s).bell = s.bell
    ∧ (enterFree s).link = s.link
    ∧ (enterFree s).pending = s.pending := by
  refine ⟨?_, ?_, ?_, ?_, ?_, ?_, ?_, ?_, ?_, ?_, ?_, ?_, ?_, ?_⟩ <;> unfold enterFree <;> (try dsimp only) <;> (repeat' split) <;> simp

/-- Unchanged by `raiseCleared`. -/
@[simp] theorem raiseCleared_frame (b : Byte) (s : State) :
    (raiseCleared b s).now = s.now
    ∧ (raiseCleared b s).ticket = s.ticket
    ∧ (raiseCleared b s).lineIn = s.lineIn
    ∧ (raiseCleared b s).store = s.store
    ∧ (raiseCleared b s).tables = s.tables
    ∧ (raiseCleared b s).setup = s.setup
    ∧ (raiseCleared b s).modes = s.modes
    ∧ (raiseCleared b s).receiver = s.receiver
    ∧ (raiseCleared b s).transmitter = s.transmitter
    ∧ (raiseCleared b s).controller = s.controller
    ∧ (raiseCleared b s).keyboard = s.keyboard
    ∧ (raiseCleared b s).printer = s.printer
    ∧ (raiseCleared b s).punch = s.punch
    ∧ (raiseCleared b s).motor = s.motor
    ∧ (raiseCleared b s).sense = s.sense
    ∧ (raiseCleared b s).bell = s.bell
    ∧ (raiseCleared b s).link = s.link
    ∧ (raiseCleared b s).pending = s.pending := by
  refine ⟨?_, ?_, ?_, ?_, ?_, ?_, ?_, ?_, ?_, ?_, ?_, ?_, ?_, ?_, ?_, ?_, ?_, ?_⟩ <;> unfold raiseCleared <;> simp

/-- Unchanged by `lettersPlanes`. -/
@[simp] theorem lettersPlanes_frame  (s : State) :
    (lettersPlanes s).now = s.now
    ∧ (lettersPlanes s).ticket = s.ticket
    ∧ (lettersPlanes s).lineIn = s.lineIn
    ∧ (lettersPlanes s).store = s.store
    ∧ (lettersPlanes s).tables = s.tables
    ∧ (lettersPlanes s).setup = s.setup
    ∧ (lettersPlanes s).modes = s.modes
    ∧ (lettersPlanes s).controller = s.controller
    ∧ (lettersPlanes s).keyboard = s.keyboard
    ∧ (lettersPlanes s).printer = s.printer
    ∧ (lettersPlanes s).punch = s.punch
    ∧ (lettersPlanes s).motor = s.motor
    ∧ (lettersPlanes s).sense = s.sense
    ∧ (lettersPlanes s).bell = s.bell
    ∧ (lettersPlanes s).link = s.link
    ∧ (lettersPlanes s).events = s.events
    ∧ (lettersPlanes s).pending = s.pending := by
  refine ⟨?_, ?_, ?_, ?_, ?_, ?_, ?_, ?_, ?_, ?_, ?_, ?_, ?_, ?_, ?_, ?_, ?_⟩ <;> unfold lettersPlanes <;> (try dsimp only) <;> simp

/-- Unchanged by `enterRefusing`. -/
@[simp] theorem enterRefusing_frame  (s : State) :
    (enterRefusing s).now = s.now
    ∧ (enterRefusing s).ticket = s.ticket
    ∧ (enterRefusing s).lineIn = s.lineIn
    ∧ (enterRefusing s).store = s.store
    ∧ (enterRefusing s).tables = s.tables
    ∧ (enterRefusing s).setup = s.setup
    ∧ (enterRefusing s).modes = s.modes
    ∧ (enterRefusing s).keyboard = s.keyboard
    ∧ (enterRefusing s).printer = s.printer
    ∧ (enterRefusing s).punch = s.punch
    ∧ (enterRefusing s).motor = s.motor
    ∧ (enterRefusing s).sense = s.sense
    ∧ (enterRefusing s).bell = s.bell
    ∧ (enterRefusing s).link = s.link
    ∧ (enterRefusing s).events = s.events
    ∧ (enterRefusing s).pending = s.pending := by
  refine ⟨?_, ?_, ?_, ?_, ?_, ?_, ?_, ?_, ?_, ?_, ?_, ?_, ?_, ?_, ?_, ?_⟩ <;> unfold enterRefusing <;> (try dsimp only) <;> (repeat' split) <;> simp

/-- Unchanged by `markBreakPassed`. -/
@[simp] theorem markBreakPassed_frame  (s : State) :
    (markBreakPassed s).now = s.now
    ∧ (markBreakPassed s).ticket = s.ticket
    ∧ (markBreakPassed s).lineIn = s.lineIn
    ∧ (markBreakPassed s).store = s.store
    ∧ (markBreakPassed s).tables = s.tables
    ∧ (markBreakPassed s).setup = s.setup
    ∧ (markBreakPassed s).modes = s.modes
    ∧ (markBreakPassed s).transmitter = s.transmitter
    ∧ (markBreakPassed s).controller = s.controller
    ∧ (markBreakPassed s).keyboard = s.keyboard
    ∧ (markBreakPassed s).printer = s.printer
    ∧ (markBreakPassed s).punch = s.punch
    ∧ (markBreakPassed s).motor = s.motor
    ∧ (markBreakPassed s).sense = s.sense
    ∧ (markBreakPassed s).bell = s.bell
    ∧ (markBreakPassed s).link = s.link
    ∧ (markBreakPassed s).events = s.events
    ∧ (markBreakPassed s).pending = s.pending := by
  refine ⟨?_, ?_, ?_, ?_, ?_, ?_, ?_, ?_, ?_, ?_, ?_, ?_, ?_, ?_, ?_, ?_, ?_, ?_⟩ <;> unfold markBreakPassed <;> (try dsimp only) <;> (repeat' split) <;> simp

/-- Unchanged by `enterEstablished`. -/
@[simp] theorem enterEstablished_frame  (s : State) :
    (enterEstablished s).now = s.now
    ∧ (enterEstablished s).ticket = s.ticket
    ∧ (enterEstablished s).lineIn = s.lineIn
    ∧ (enterEstablished s).store = s.store
    ∧ (enterEstablished s).tables = s.tables
    ∧ (enterEstablished s).setup = s.setup
    ∧ (enterEstablished s).modes = s.modes
    ∧ (enterEstablished s).keyboard = s.keyboard
    ∧ (enterEstablished s).printer = s.printer
    ∧ (enterEstablished s).punch = s.punch
    ∧ (enterEstablished s).motor = s.motor
    ∧ (enterEstablished s).sense = s.sense
    ∧ (enterEstablished s).bell = s.bell
    ∧ (enterEstablished s).link = s.link
    ∧ (enterEstablished s).pending = s.pending := by
  refine ⟨?_, ?_, ?_, ?_, ?_, ?_, ?_, ?_, ?_, ?_, ?_, ?_, ?_, ?_, ?_⟩ <;> unfold enterEstablished <;> (try dsimp only) <;> (repeat' split) <;> simp

/-- Unchanged by `wakingFault`. -/
@[simp] theorem wakingFault_frame  (s : State) :
    (wakingFault s).now = s.now
    ∧ (wakingFault s).ticket = s.ticket
    ∧ (wakingFault s).lineIn = s.lineIn
    ∧ (wakingFault s).store = s.store
    ∧ (wakingFault s).tables = s.tables
    ∧ (wakingFault s).setup = s.setup
    ∧ (wakingFault s).modes = s.modes
    ∧ (wakingFault s).keyboard = s.keyboard
    ∧ (wakingFault s).printer = s.printer
    ∧ (wakingFault s).punch = s.punch
    ∧ (wakingFault s).motor = s.motor
    ∧ (wakingFault s).sense = s.sense
    ∧ (wakingFault s).bell = s.bell
    ∧ (wakingFault s).link = s.link
    ∧ (wakingFault s).events = s.events
    ∧ (wakingFault s).pending = s.pending := by
  refine ⟨?_, ?_, ?_, ?_, ?_, ?_, ?_, ?_, ?_, ?_, ?_, ?_, ?_, ?_, ?_, ?_⟩ <;> unfold wakingFault <;> (repeat' split) <;> simp

/-- Unchanged by `enterWaking`. -/
@[simp] theorem enterWaking_frame  (s : State) :
    (enterWaking s).now = s.now
    ∧ (enterWaking s).ticket = s.ticket
    ∧ (enterWaking s).lineIn = s.lineIn
    ∧ (enterWaking s).store = s.store
    ∧ (enterWaking s).tables = s.tables
    ∧ (enterWaking s).setup = s.setup
    ∧ (enterWaking s).modes = s.modes
    ∧ (enterWaking s).keyboard = s.keyboard
    ∧ (enterWaking s).printer = s.printer
    ∧ (enterWaking s).punch = s.punch
    ∧ (enterWaking s).motor = s.motor
    ∧ (enterWaking s).sense = s.sense
    ∧ (enterWaking s).bell = s.bell
    ∧ (enterWaking s).link = s.link
    ∧ (enterWaking s).pending = s.pending := by
  refine ⟨?_, ?_, ?_, ?_, ?_, ?_, ?_, ?_, ?_, ?_, ?_, ?_, ?_, ?_, ?_⟩ <;> unfold enterWaking <;> (try dsimp only) <;> (repeat' split) <;> simp

/-- Unchanged by `enterCall`. -/
@[simp] theorem enterCall_frame (k : CallKind) (a : Bool) (s : State) :
    (enterCall k a s).now = s.now
    ∧ (enterCall k a s).ticket = s.ticket
    ∧ (enterCall k a s).lineIn = s.lineIn
    ∧ (enterCall k a s).tables = s.tables
    ∧ (enterCall k a s).setup = s.setup
    ∧ (enterCall k a s).punch = s.punch
    ∧ (enterCall k a s).motor = s.motor
    ∧ (enterCall k a s).sense = s.sense
    ∧ (enterCall k a s).bell = s.bell
    ∧ (enterCall k a s).link = s.link
    ∧ (enterCall k a s).pending = s.pending := by
  refine ⟨?_, ?_, ?_, ?_, ?_, ?_, ?_, ?_, ?_, ?_, ?_⟩ <;> unfold enterCall <;> (try dsimp only) <;> (repeat' split) <;> simp

/-- Unchanged by `resumePunchStep`. -/
@[simp] theorem resumePunchStep_frame  (s : State) :
    (resumePunchStep s).now = s.now
    ∧ (resumePunchStep s).ticket = s.ticket
    ∧ (resumePunchStep s).lineIn = s.lineIn
    ∧ (resumePunchStep s).store = s.store
    ∧ (resumePunchStep s).tables = s.tables
    ∧ (resumePunchStep s).setup = s.setup
    ∧ (resumePunchStep s).modes = s.modes
    ∧ (resumePunchStep s).receiver = s.receiver
    ∧ (resumePunchStep s).transmitter = s.transmitter
    ∧ (resumePunchStep s).controller = s.controller
    ∧ (resumePunchStep s).keyboard = s.keyboard
    ∧ (resumePunchStep s).printer = s.printer
    ∧ (resumePunchStep s).sense = s.sense
    ∧ (resumePunchStep s).bell = s.bell
    ∧ (resumePunchStep s).link = s.link
    ∧ (resumePunchStep s).events = s.events
    ∧ (resumePunchStep s).pending = s.pending := by
  refine ⟨?_, ?_, ?_, ?_, ?_, ?_, ?_, ?_, ?_, ?_, ?_, ?_, ?_, ?_, ?_, ?_, ?_⟩ <;> unfold resumePunchStep <;> (try dsimp only) <;> (repeat' split) <;> simp

/-- Unchanged by `enterRunning`. -/
@[simp] theorem enterRunning_frame  (s : State) :
    (enterRunning s).now = s.now
    ∧ (enterRunning s).ticket = s.ticket
    ∧ (enterRunning s).lineIn = s.lineIn
    ∧ (enterRunning s).store = s.store
    ∧ (enterRunning s).tables = s.tables
    ∧ (enterRunning s).setup = s.setup
    ∧ (enterRunning s).modes = s.modes
    ∧ (enterRunning s).keyboard = s.keyboard
    ∧ (enterRunning s).printer = s.printer
    ∧ (enterRunning s).sense = s.sense
    ∧ (enterRunning s).bell = s.bell
    ∧ (enterRunning s).link = s.link
    ∧ (enterRunning s).pending = s.pending := by
  refine ⟨?_, ?_, ?_, ?_, ?_, ?_, ?_, ?_, ?_, ?_, ?_, ?_, ?_⟩ <;> unfold enterRunning <;> (try dsimp only) <;> (repeat' split) <;> simp

/-- Unchanged by `beginRunup`. -/
@[simp] theorem beginRunup_frame  (s : State) :
    (beginRunup s).now = s.now
    ∧ (beginRunup s).ticket = s.ticket
    ∧ (beginRunup s).lineIn = s.lineIn
    ∧ (beginRunup s).store = s.store
    ∧ (beginRunup s).tables = s.tables
    ∧ (beginRunup s).setup = s.setup
    ∧ (beginRunup s).modes = s.modes
    ∧ (beginRunup s).keyboard = s.keyboard
    ∧ (beginRunup s).printer = s.printer
    ∧ (beginRunup s).sense = s.sense
    ∧ (beginRunup s).bell = s.bell
    ∧ (beginRunup s).link = s.link
    ∧ (beginRunup s).pending = s.pending := by
  refine ⟨?_, ?_, ?_, ?_, ?_, ?_, ?_, ?_, ?_, ?_, ?_, ?_, ?_⟩ <;> unfold beginRunup <;> (try dsimp only) <;> (repeat' split) <;> simp

/-- Unchanged by `enterFault`. -/
@[simp] theorem enterFault_frame  (s : State) :
    (enterFault s).now = s.now
    ∧ (enterFault s).ticket = s.ticket
    ∧ (enterFault s).lineIn = s.lineIn
    ∧ (enterFault s).store = s.store
    ∧ (enterFault s).tables = s.tables
    ∧ (enterFault s).setup = s.setup
    ∧ (enterFault s).modes = s.modes
    ∧ (enterFault s).keyboard = s.keyboard
    ∧ (enterFault s).punch = s.punch
    ∧ (enterFault s).sense = s.sense
    ∧ (enterFault s).bell = s.bell
    ∧ (enterFault s).link = s.link
    ∧ (enterFault s).pending = s.pending := by
  refine ⟨?_, ?_, ?_, ?_, ?_, ?_, ?_, ?_, ?_, ?_, ?_, ?_, ?_⟩ <;> unfold enterFault <;> (try dsimp only) <;> (repeat' split) <;> simp

/-- Unchanged by `motorReadySet`. -/
@[simp] theorem motorReadySet_frame  (s : State) :
    (motorReadySet s).now = s.now
    ∧ (motorReadySet s).ticket = s.ticket
    ∧ (motorReadySet s).lineIn = s.lineIn
    ∧ (motorReadySet s).store = s.store
    ∧ (motorReadySet s).tables = s.tables
    ∧ (motorReadySet s).setup = s.setup
    ∧ (motorReadySet s).modes = s.modes
    ∧ (motorReadySet s).keyboard = s.keyboard
    ∧ (motorReadySet s).printer = s.printer
    ∧ (motorReadySet s).sense = s.sense
    ∧ (motorReadySet s).bell = s.bell
    ∧ (motorReadySet s).link = s.link
    ∧ (motorReadySet s).pending = s.pending := by
  refine ⟨?_, ?_, ?_, ?_, ?_, ?_, ?_, ?_, ?_, ?_, ?_, ?_, ?_⟩ <;> unfold motorReadySet <;> (repeat' split) <;> simp

/-- Unchanged by `motorReadyLost`. -/
@[simp] theorem motorReadyLost_frame  (s : State) :
    (motorReadyLost s).now = s.now
    ∧ (motorReadyLost s).ticket = s.ticket
    ∧ (motorReadyLost s).lineIn = s.lineIn
    ∧ (motorReadyLost s).store = s.store
    ∧ (motorReadyLost s).tables = s.tables
    ∧ (motorReadyLost s).setup = s.setup
    ∧ (motorReadyLost s).modes = s.modes
    ∧ (motorReadyLost s).keyboard = s.keyboard
    ∧ (motorReadyLost s).punch = s.punch
    ∧ (motorReadyLost s).sense = s.sense
    ∧ (motorReadyLost s).bell = s.bell
    ∧ (motorReadyLost s).link = s.link
    ∧ (motorReadyLost s).pending = s.pending := by
  refine ⟨?_, ?_, ?_, ?_, ?_, ?_, ?_, ?_, ?_, ?_, ?_, ?_, ?_⟩ <;> unfold motorReadyLost <;> (repeat' split) <;> simp

/-- Unchanged by `stopMotor`. -/
@[simp] theorem stopMotor_frame  (s : State) :
    (stopMotor s).now = s.now
    ∧ (stopMotor s).ticket = s.ticket
    ∧ (stopMotor s).lineIn = s.lineIn
    ∧ (stopMotor s).store = s.store
    ∧ (stopMotor s).tables = s.tables
    ∧ (stopMotor s).setup = s.setup
    ∧ (stopMotor s).modes = s.modes
    ∧ (stopMotor s).receiver = s.receiver
    ∧ (stopMotor s).transmitter = s.transmitter
    ∧ (stopMotor s).controller = s.controller
    ∧ (stopMotor s).keyboard = s.keyboard
    ∧ (stopMotor s).printer = s.printer
    ∧ (stopMotor s).punch = s.punch
    ∧ (stopMotor s).sense = s.sense
    ∧ (stopMotor s).bell = s.bell
    ∧ (stopMotor s).link = s.link
    ∧ (stopMotor s).events = s.events
    ∧ (stopMotor s).pending = s.pending := by
  refine ⟨?_, ?_, ?_, ?_, ?_, ?_, ?_, ?_, ?_, ?_, ?_, ?_, ?_, ?_, ?_, ?_, ?_, ?_⟩ <;> unfold stopMotor <;> simp

/-- Unchanged by `lockKeyboard`. -/
@[simp] theorem lockKeyboard_frame  (s : State) :
    (lockKeyboard s).now = s.now
    ∧ (lockKeyboard s).ticket = s.ticket
    ∧ (lockKeyboard s).lineIn = s.lineIn
    ∧ (lockKeyboard s).store = s.store
    ∧ (lockKeyboard s).tables = s.tables
    ∧ (lockKeyboard s).setup = s.setup
    ∧ (lockKeyboard s).modes = s.modes
    ∧ (lockKeyboard s).receiver = s.receiver
    ∧ (lockKeyboard s).transmitter = s.transmitter
    ∧ (lockKeyboard s).controller = s.controller
    ∧ (lockKeyboard s).printer = s.printer
    ∧ (lockKeyboard s).punch = s.punch
    ∧ (lockKeyboard s).motor = s.motor
    ∧ (lockKeyboard s).sense = s.sense
    ∧ (lockKeyboard s).link = s.link
    ∧ (lockKeyboard s).pending = s.pending := by
  refine ⟨?_, ?_, ?_, ?_, ?_, ?_, ?_, ?_, ?_, ?_, ?_, ?_, ?_, ?_, ?_, ?_⟩ <;> unfold lockKeyboard <;> (try dsimp only) <;> simp

/-- Unchanged by `addFeeds`. -/
@[simp] theorem addFeeds_frame (n : Nat) (s : State) :
    (addFeeds n s).now = s.now
    ∧ (addFeeds n s).ticket = s.ticket
    ∧ (addFeeds n s).lineIn = s.lineIn
    ∧ (addFeeds n s).store = s.store
    ∧ (addFeeds n s).tables = s.tables
    ∧ (addFeeds n s).setup = s.setup
    ∧ (addFeeds n s).modes = s.modes
    ∧ (addFeeds n s).receiver = s.receiver
    ∧ (addFeeds n s).transmitter = s.transmitter
    ∧ (addFeeds n s).controller = s.controller
    ∧ (addFeeds n s).keyboard = s.keyboard
    ∧ (addFeeds n s).printer = s.printer
    ∧ (addFeeds n s).motor = s.motor
    ∧ (addFeeds n s).sense = s.sense
    ∧ (addFeeds n s).bell = s.bell
    ∧ (addFeeds n s).link = s.link
    ∧ (addFeeds n s).events = s.events
    ∧ (addFeeds n s).pending = s.pending := by
  refine ⟨?_, ?_, ?_, ?_, ?_, ?_, ?_, ?_, ?_, ?_, ?_, ?_, ?_, ?_, ?_, ?_, ?_, ?_⟩ <;> unfold addFeeds <;> (try dsimp only) <;> simp

/-- Unchanged by `updateRepeat`. -/
@[simp] theorem updateRepeat_frame  (s : State) :
    (updateRepeat s).now = s.now
    ∧ (updateRepeat s).ticket = s.ticket
    ∧ (updateRepeat s).lineIn = s.lineIn
    ∧ (updateRepeat s).store = s.store
    ∧ (updateRepeat s).tables = s.tables
    ∧ (updateRepeat s).setup = s.setup
    ∧ (updateRepeat s).modes = s.modes
    ∧ (updateRepeat s).receiver = s.receiver
    ∧ (updateRepeat s).transmitter = s.transmitter
    ∧ (updateRepeat s).controller = s.controller
    ∧ (updateRepeat s).printer = s.printer
    ∧ (updateRepeat s).punch = s.punch
    ∧ (updateRepeat s).motor = s.motor
    ∧ (updateRepeat s).sense = s.sense
    ∧ (updateRepeat s).bell = s.bell
    ∧ (updateRepeat s).link = s.link
    ∧ (updateRepeat s).events = s.events
    ∧ (updateRepeat s).pending = s.pending := by
  refine ⟨?_, ?_, ?_, ?_, ?_, ?_, ?_, ?_, ?_, ?_, ?_, ?_, ?_, ?_, ?_, ?_, ?_, ?_⟩ <;> unfold updateRepeat <;> (try dsimp only) <;> (repeat' split) <;> simp

end Sys2Proof.Machine
end

