-- ==== Sys2Proof/Laws/LinkFrames.lean ====
section
/-! SUPPORT. The fields that the host link's operations leave alone. -/

namespace Sys2Proof.Machine

/-- Unchanged by `beginSending`. -/
@[simp] theorem beginSending_frame (b : List Byte) (r : Bool) (s : State) :
    (beginSending b r s).now = s.now
    ∧ (beginSending b r s).ticket = s.ticket
    ∧ (beginSending b r s).lineIn = s.lineIn
    ∧ (beginSending b r s).store = s.store
    ∧ (beginSending b r s).tables = s.tables
    ∧ (beginSending b r s).setup = s.setup
    ∧ (beginSending b r s).modes = s.modes
    ∧ (beginSending b r s).receiver = s.receiver
    ∧ (beginSending b r s).transmitter = s.transmitter
    ∧ (beginSending b r s).controller = s.controller
    ∧ (beginSending b r s).keyboard = s.keyboard
    ∧ (beginSending b r s).printer = s.printer
    ∧ (beginSending b r s).punch = s.punch
    ∧ (beginSending b r s).motor = s.motor
    ∧ (beginSending b r s).sense = s.sense
    ∧ (beginSending b r s).bell = s.bell
    ∧ (beginSending b r s).events = s.events
    ∧ (beginSending b r s).pending = s.pending := by
  refine ⟨?_, ?_, ?_, ?_, ?_, ?_, ?_, ?_, ?_, ?_, ?_, ?_, ?_, ?_, ?_, ?_, ?_, ?_⟩ <;> unfold beginSending <;> (try dsimp only) <;> simp

/-- Unchanged by `beginReply`. -/
@[simp] theorem beginReply_frame (r : Reply) (s : State) :
    (beginReply r s).now = s.now
    ∧ (beginReply r s).ticket = s.ticket
    ∧ (beginReply r s).lineIn = s.lineIn
    ∧ (beginReply r s).store = s.store
    ∧ (beginReply r s).tables = s.tables
    ∧ (beginReply r s).setup = s.setup
    ∧ (beginReply r s).modes = s.modes
    ∧ (beginReply r s).receiver = s.receiver
    ∧ (beginReply r s).transmitter = s.transmitter
    ∧ (beginReply r s).controller = s.controller
    ∧ (beginReply r s).keyboard = s.keyboard
    ∧ (beginReply r s).printer = s.printer
    ∧ (beginReply r s).punch = s.punch
    ∧ (beginReply r s).motor = s.motor
    ∧ (beginReply r s).bell = s.bell
    ∧ (beginReply r s).events = s.events
    ∧ (beginReply r s).pending = s.pending := by
  refine ⟨?_, ?_, ?_, ?_, ?_, ?_, ?_, ?_, ?_, ?_, ?_, ?_, ?_, ?_, ?_, ?_, ?_⟩ <;> unfold beginReply <;> (try dsimp only) <;> (repeat' split) <;> simp

/-- Unchanged by `takeEventData`. -/
@[simp] theorem takeEventData_frame (e : Fin 16) (s : State) :
    (takeEventData e s).now = s.now
    ∧ (takeEventData e s).ticket = s.ticket
    ∧ (takeEventData e s).lineIn = s.lineIn
    ∧ (takeEventData e s).store = s.store
    ∧ (takeEventData e s).tables = s.tables
    ∧ (takeEventData e s).setup = s.setup
    ∧ (takeEventData e s).modes = s.modes
    ∧ (takeEventData e s).receiver = s.receiver
    ∧ (takeEventData e s).transmitter = s.transmitter
    ∧ (takeEventData e s).controller = s.controller
    ∧ (takeEventData e s).keyboard = s.keyboard
    ∧ (takeEventData e s).printer = s.printer
    ∧ (takeEventData e s).punch = s.punch
    ∧ (takeEventData e s).motor = s.motor
    ∧ (takeEventData e s).sense = s.sense
    ∧ (takeEventData e s).bell = s.bell
    ∧ (takeEventData e s).link = s.link
    ∧ (takeEventData e s).pending = s.pending := by
  refine ⟨?_, ?_, ?_, ?_, ?_, ?_, ?_, ?_, ?_, ?_, ?_, ?_, ?_, ?_, ?_, ?_, ?_, ?_⟩ <;> unfold takeEventData <;> (try dsimp only) <;> (repeat' split) <;> simp

/-- Unchanged by `beginNotice`. -/
@[simp] theorem beginNotice_frame (e : Fin 16) (s : State) :
    (beginNotice e s).now = s.now
    ∧ (beginNotice e s).ticket = s.ticket
    ∧ (beginNotice e s).lineIn = s.lineIn
    ∧ (beginNotice e s).store = s.store
    ∧ (beginNotice e s).tables = s.tables
    ∧ (beginNotice e s).setup = s.setup
    ∧ (beginNotice e s).modes = s.modes
    ∧ (beginNotice e s).receiver = s.receiver
    ∧ (beginNotice e s).transmitter = s.transmitter
    ∧ (beginNotice e s).controller = s.controller
    ∧ (beginNotice e s).keyboard = s.keyboard
    ∧ (beginNotice e s).printer = s.printer
    ∧ (beginNotice e s).punch = s.punch
    ∧ (beginNotice e s).motor = s.motor
    ∧ (beginNotice e s).bell = s.bell
    ∧ (beginNotice e s).pending = s.pending := by
  refine ⟨?_, ?_, ?_, ?_, ?_, ?_, ?_, ?_, ?_, ?_, ?_, ?_, ?_, ?_, ?_, ?_⟩ <;> unfold beginNotice <;> (try dsimp only) <;> (repeat' split) <;> simp

/-- Unchanged by `chooseOutgoing`. -/
@[simp] theorem chooseOutgoing_frame  (s : State) :
    (chooseOutgoing s).now = s.now
    ∧ (chooseOutgoing s).ticket = s.ticket
    ∧ (chooseOutgoing s).lineIn = s.lineIn
    ∧ (chooseOutgoing s).store = s.store
    ∧ (chooseOutgoing s).tables = s.tables
    ∧ (chooseOutgoing s).setup = s.setup
    ∧ (chooseOutgoing s).modes = s.modes
    ∧ (chooseOutgoing s).receiver = s.receiver
    ∧ (chooseOutgoing s).transmitter = s.transmitter
    ∧ (chooseOutgoing s).controller = s.controller
    ∧ (chooseOutgoing s).keyboard = s.keyboard
    ∧ (chooseOutgoing s).printer = s.printer
    ∧ (chooseOutgoing s).punch = s.punch
    ∧ (chooseOutgoing s).motor = s.motor
    ∧ (chooseOutgoing s).bell = s.bell
    ∧ (chooseOutgoing s).pending = s.pending := by
  refine ⟨?_, ?_, ?_, ?_, ?_, ?_, ?_, ?_, ?_, ?_, ?_, ?_, ?_, ?_, ?_, ?_⟩ <;> unfold chooseOutgoing <;> (repeat' split) <;> simp

/-- Unchanged by `emptyBuffer`. -/
@[simp] theorem emptyBuffer_frame  (s : State) :
    (emptyBuffer s).now = s.now
    ∧ (emptyBuffer s).ticket = s.ticket
    ∧ (emptyBuffer s).lineIn = s.lineIn
    ∧ (emptyBuffer s).store = s.store
    ∧ (emptyBuffer s).tables = s.tables
    ∧ (emptyBuffer s).setup = s.setup
    ∧ (emptyBuffer s).modes = s.modes
    ∧ (emptyBuffer s).receiver = s.receiver
    ∧ (emptyBuffer s).transmitter = s.transmitter
    ∧ (emptyBuffer s).controller = s.controller
    ∧ (emptyBuffer s).keyboard = s.keyboard
    ∧ (emptyBuffer s).printer = s.printer
    ∧ (emptyBuffer s).punch = s.punch
    ∧ (emptyBuffer s).motor = s.motor
    ∧ (emptyBuffer s).sense = s.sense
    ∧ (emptyBuffer s).bell = s.bell
    ∧ (emptyBuffer s).events = s.events
    ∧ (emptyBuffer s).pending = s.pending := by
  refine ⟨?_, ?_, ?_, ?_, ?_, ?_, ?_, ?_, ?_, ?_, ?_, ?_, ?_, ?_, ?_, ?_, ?_, ?_⟩ <;> unfold emptyBuffer <;> (try dsimp only) <;> simp

/-- Unchanged by `oweReply`. -/
@[simp] theorem oweReply_frame (r : Reply) (s : State) :
    (oweReply r s).now = s.now
    ∧ (oweReply r s).ticket = s.ticket
    ∧ (oweReply r s).lineIn = s.lineIn
    ∧ (oweReply r s).store = s.store
    ∧ (oweReply r s).tables = s.tables
    ∧ (oweReply r s).setup = s.setup
    ∧ (oweReply r s).modes = s.modes
    ∧ (oweReply r s).receiver = s.receiver
    ∧ (oweReply r s).transmitter = s.transmitter
    ∧ (oweReply r s).controller = s.controller
    ∧ (oweReply r s).keyboard = s.keyboard
    ∧ (oweReply r s).printer = s.printer
    ∧ (oweReply r s).punch = s.punch
    ∧ (oweReply r s).motor = s.motor
    ∧ (oweReply r s).sense = s.sense
    ∧ (oweReply r s).bell = s.bell
    ∧ (oweReply r s).events = s.events
    ∧ (oweReply r s).pending = s.pending := by
  refine ⟨?_, ?_, ?_, ?_, ?_, ?_, ?_, ?_, ?_, ?_, ?_, ?_, ?_, ?_, ?_, ?_, ?_, ?_⟩ <;> unfold oweReply <;> (try dsimp only) <;> simp

/-- Unchanged by `framingFault`. -/
@[simp] theorem framingFault_frame  (s : State) :
    (framingFault s).now = s.now
    ∧ (framingFault s).ticket = s.ticket
    ∧ (framingFault s).lineIn = s.lineIn
    ∧ (framingFault s).store = s.store
    ∧ (framingFault s).tables = s.tables
    ∧ (framingFault s).setup = s.setup
    ∧ (framingFault s).modes = s.modes
    ∧ (framingFault s).receiver = s.receiver
    ∧ (framingFault s).transmitter = s.transmitter
    ∧ (framingFault s).controller = s.controller
    ∧ (framingFault s).keyboard = s.keyboard
    ∧ (framingFault s).printer = s.printer
    ∧ (framingFault s).punch = s.punch
    ∧ (framingFault s).motor = s.motor
    ∧ (framingFault s).sense = s.sense
    ∧ (framingFault s).bell = s.bell
    ∧ (framingFault s).pending = s.pending := by
  refine ⟨?_, ?_, ?_, ?_, ?_, ?_, ?_, ?_, ?_, ?_, ?_, ?_, ?_, ?_, ?_, ?_, ?_⟩ <;> unfold framingFault <;> (try dsimp only) <;> (repeat' split) <;> simp

end Sys2Proof.Machine
end

