-- ==== Sys2Proof/Laws/Link.lean ====
section
/-! SUPPORT. What the shared operations of the host link can do, each said once: the end of a meaning, a
record that is taken, one that is discarded, the outgoing choice in its three cases, and the gap before a byte. -/

namespace Sys2Proof.Machine

/-- A busy outgoing link: nothing is chosen. -/
theorem chooseOutgoing_busy (s : State) (o : Outgoing) (h : s.link.out = some o) : chooseOutgoing s = s := by
  unfold chooseOutgoing
  rw [h]

/-- A free link with a reply waiting: the reply begins. -/
theorem chooseOutgoing_reply (s : State) (r : Reply) (h : s.link.out = none) (hw : s.link.waiting = some r) :
    chooseOutgoing s = beginReply r s := by
  unfold chooseOutgoing
  rw [h, hw]

/-- A free link with no reply waiting: the offered notice begins, if there is one. -/
theorem chooseOutgoing_notice (s : State) (h : s.link.out = none) (hw : s.link.waiting = none) :
    chooseOutgoing s = match offered s with
      | some e => beginNotice e s
      | none => s := by
  cases ho : offered s with
  | none => simp [chooseOutgoing, h, hw, ho]
  | some e => simp [chooseOutgoing, h, hw, ho]

/-- Nothing to send: the choice changes nothing. -/
theorem chooseOutgoing_served (s : State) (h : LinkServed s) : chooseOutgoing s = s := by
  unfold chooseOutgoing
  cases ho : s.link.out with
  | some o => rfl
  | none =>
    obtain ⟨hw, hf⟩ := h ho
    rw [hw, hf]

/-- A record that is taken runs its command with the assembly buffer emptied, and its reply is owed. -/
theorem hostRecord_taken (n : Nat) (act : State → Reply × State) (s : State) (h : CommandTaken s)
    (hn : n ≤ 64) :
    hostRecord n act s = oweReply (act (emptyBuffer s)).1 (act (emptyBuffer s)).2 := by
  have hq : replyOwed (emptyBuffer s) = false := h.2
  simp [hostRecord, takeRecord, h.1, Nat.not_lt.mpr hn, hq]

/-- A record that completes while a reply is owed is discarded with LINK_ERROR, data OVERRUN. -/
theorem hostRecord_owed (n : Nat) (act : State → Reply × State) (s : State) (h : s.link.resync = false)
    (hr : replyOwed s = true) (hn : n ≤ 64) :
    hostRecord n act s = raise evLinkError (some errorOverrun) (emptyBuffer s) := by
  have hq : replyOwed (emptyBuffer s) = true := hr
  simp [hostRecord, takeRecord, h, Nat.not_lt.mpr hn, hq]

/-- A record given while resynchronizing only restarts the gap timing. -/
theorem hostRecord_resync (n : Nat) (act : State → Reply × State) (s : State) (h : s.link.resync = true) :
    hostRecord n act s = s.setLink { s.link with gapFrom := some s.now } := by
  simp [hostRecord, h]

/-- A command that answers with a record and leaves the clock and the link alone: everything but the link is
as the command makes it, and the reply is begun or waits. -/
theorem finish_taken (n : Nat) (act : State → Reply × State) (s u : State) (k : Byte) (p : List Byte)
    (h : CommandTaken s) (hn : n ≤ 64) (ha : act (emptyBuffer s) = (.record k p, u))
    (hl : u.link = (emptyBuffer s).link) (ht : u.now = s.now) :
    finish (hostRecord n act s) = .next (u.setLink (linkAfter k p s)) := by
  rw [hostRecord_taken n act s h hn, ha]
  unfold finish
  congr 1
  have hw : s.link.waiting = none := by
    have := h.2
    unfold replyOwed at this
    cases hc : s.link.waiting <;> simp_all
  cases ho : s.link.out with
  | some o =>
    rw [chooseOutgoing_busy _ o (by simp [oweReply, hl, emptyBuffer, ho])]
    simp [oweReply, linkAfter, ho, hl, emptyBuffer, State.setLink]
  | none =>
    rw [chooseOutgoing_reply _ (.record k p) (by simp [oweReply, hl, emptyBuffer, ho]) (by simp [oweReply])]
    simp [oweReply, beginReply, beginSending, linkAfter, ho, hl, ht, emptyBuffer, State.setLink]

/-- No gap is timed after the gap has expired. -/
theorem doGapExpiry_gapFrom (s t : State) (h : doGapExpiry s = some t) : t.link.gapFrom = none := by
  unfold doGapExpiry at h
  split at h
  · cases h
  · dsimp only at h
    repeat' split at h
    all_goals cases h
    all_goals rfl

/-- A byte whose start bit comes in time finds the state as it is. -/
theorem beforeByte_in_time (time : Nat) (s : State) (h : gapPassed (s.upTo time).now s = false) :
    beforeByte time s = s := by
  simp [beforeByte, h]

/-- A byte whose start bit comes too late finds the state after the gap's expiry. -/
theorem beforeByte_late (time : Nat) (s t : State) (h : gapPassed (s.upTo time).now s = true)
    (ht : doGapExpiry s = some t) : beforeByte time s = chooseOutgoing t := by
  simp [beforeByte, h, ht]

end Sys2Proof.Machine
end

