-- ==== Sys2Proof/Laws/Memory.lean ====
section
/-! SUPPORT. The cells of the store: reading after a write, the canonical form, and the ring a write leaves. -/

namespace Sys2Proof.Machine

/-- A cell just written holds the entry. -/
@[simp] theorem readCell_writeCell_same (a : Nat) (e : Entry) (cells : List (Nat × Entry)) :
    readCell (writeCell a e cells) a = some e := by
  induction cells with
  | nil => simp [writeCell, readCell]
  | cons x rest ih =>
    obtain ⟨b, f⟩ := x
    simp only [writeCell]
    split
    · simp [readCell]
    · split
      · simp [readCell]
      · rename_i hne
        have hba : ¬ b = a := fun h => hne h.symm
        simp [readCell, hba, ih]

/-- A write leaves every other cell alone. -/
theorem readCell_writeCell_other {a b : Nat} (h : b ≠ a) (e : Entry) (cells : List (Nat × Entry)) :
    readCell (writeCell a e cells) b = readCell cells b := by
  have hab : ¬ a = b := fun x => h x.symm
  induction cells with
  | nil => simp [writeCell, readCell, hab]
  | cons x rest ih =>
    obtain ⟨c, f⟩ := x
    simp only [writeCell]
    split
    · simp [readCell, hab]
    · split
      · rename_i hac
        subst hac
        simp [readCell, hab]
      · simp only [readCell]
        split
        · rfl
        · exact ih

/-- A write in the store keeps the cell numbers rising. -/
theorem risingFrom_writeCell (a : Nat) (e : Entry) (ha : a < cellCount) (cells : List (Nat × Entry)) :
    ∀ low, low ≤ a → Memory.risingFrom low cells = true →
      Memory.risingFrom low (writeCell a e cells) = true := by
  induction cells with
  | nil => intro low hl _; simp [writeCell, Memory.risingFrom, hl, ha]
  | cons x rest ih =>
    obtain ⟨b, f⟩ := x
    intro low hl hr
    simp only [Memory.risingFrom, Bool.and_eq_true, decide_eq_true_eq] at hr
    obtain ⟨⟨h1, h2⟩, h3⟩ := hr
    simp only [writeCell]
    split
    · rename_i hab
      simp only [Memory.risingFrom, Bool.and_eq_true, decide_eq_true_eq]
      exact ⟨⟨hl, ha⟩, ⟨⟨hab, h2⟩, h3⟩⟩
    · split
      · rename_i hab
        subst hab
        simp only [Memory.risingFrom, Bool.and_eq_true, decide_eq_true_eq]
        exact ⟨⟨hl, ha⟩, h3⟩
      · rename_i hlt hne
        simp only [Memory.risingFrom, Bool.and_eq_true, decide_eq_true_eq]
        exact ⟨⟨h1, h2⟩, ih (b + 1) (by omega) h3⟩

/-- Writing a cell of the store keeps the canonical form. -/
theorem Memory.wf_writeCell {a : Nat} (e : Entry) {cells : List (Nat × Entry)} (ha : a < cellCount)
    (h : Memory.wf cells = true) : Memory.wf (writeCell a e cells) = true :=
  risingFrom_writeCell a e ha cells 0 (Nat.zero_le a) h

/-- An empty store has the canonical form. -/
@[simp] theorem Memory.wf_nil : Memory.wf [] = true := rfl

/-- The store at reset has the canonical form. -/
theorem reset_cells_wf : Memory.wf State.reset.store.cells = true := rfl

/-- A write leaves a ring that is in order in order (R4, R5). -/
theorem Ring.ok_advance {r : Ring} (h : r.ok) : r.advance.ok := by
  obtain ⟨h1, h2, h3, h4, h5, h6, h7⟩ := h
  unfold cellCount at h3
  have hw : ∀ (_ : r.filled = false), (r.w + 1).toNat = r.w.toNat + 1 := by
    intro hf
    have := h6 hf
    rw [BitVec.toNat_add]
    simp
    omega
  refine ⟨h1, h2, h3, ?_, ?_, ?_, ?_⟩
  · simp only [Ring.advance]; split <;> omega
  · simp only [Ring.advance]; split <;> omega
  · intro hf
    simp only [Ring.advance, Bool.or_eq_false_iff, beq_eq_false_iff_ne] at hf ⊢
    have := h6 hf.1
    have := hw hf.1
    have hne := hf.2
    simp only [BitVec.toNat_add] at *
    omega
  · intro hf
    simp only [Ring.advance, Bool.or_eq_false_iff, beq_eq_false_iff_ne] at hf ⊢
    have hp := h7 hf.1
    have := hw hf.1
    have hne := hf.2
    have h8 := h6 hf.1
    simp only [BitVec.toNat_add] at *
    split <;> omega

/-- Reading a ring just set. -/
@[simp] theorem Rings.get_set_same (rs : Rings) (i : RingId) (r : Ring) : (rs.set i r).get i = r := by
  cases i <;> rfl

/-- Setting one ring leaves the others alone. -/
theorem Rings.get_set_other (rs : Rings) {i j : RingId} (h : j ≠ i) (r : Ring) :
    (rs.set i r).get j = rs.get j := by
  cases i <;> cases j <;> first | rfl | exact absurd rfl h

/-- Reading a cursor just set. -/
@[simp] theorem Cursors.get_set_same (cs : Cursors) (c : CursorId) (v : Cursor) : (cs.set c v).get c = v := by
  cases c <;> rfl

/-- Setting one cursor leaves the others alone. -/
theorem Cursors.get_set_other (cs : Cursors) {c d : CursorId} (h : d ≠ c) (v : Cursor) :
    (cs.set c v).get d = cs.get d := by
  cases c <;> cases d <;> first | rfl | exact absurd rfl h

/-- What one write does: the entry in the write place, the ring one write on, nothing else (R4). -/
theorem appendEntry_eq (i : RingId) (e : Entry) (s : State) :
    appendEntry i e s = s.setStore
      { s.store with
        cells := writeCell (s.ring i).place e s.store.cells
        rings := s.store.rings.set i (s.ring i).advance } := rfl

/-- A write through a ring in order keeps the canonical form of the cells. -/
theorem appendEntry_wf {i : RingId} (e : Entry) {s : State} (hr : (s.ring i).ok)
    (h : Memory.wf s.store.cells = true) : Memory.wf (appendEntry i e s).store.cells = true := by
  obtain ⟨_, _, h3, _, h5, _, _⟩ := hr
  exact Memory.wf_writeCell e (by omega) h

/-- A write moves no cursor. -/
@[simp] theorem appendEntry_cursor (i : RingId) (e : Entry) (s : State) (c : CursorId) :
    (appendEntry i e s).cursor c = s.cursor c := rfl

/-- The ring written is one write on. -/
@[simp] theorem appendEntry_ring_same (i : RingId) (e : Entry) (s : State) :
    (appendEntry i e s).ring i = (s.ring i).advance := Rings.get_set_same _ _ _

/-- The other rings stand as they were. -/
theorem appendEntry_ring_other {i j : RingId} (h : j ≠ i) (e : Entry) (s : State) :
    (appendEntry i e s).ring j = s.ring j := Rings.get_set_other _ h _

/-- Moving a cursor leaves the cells and the rings alone. -/
@[simp] theorem setCursor_ring (c : CursorId) (v : Cursor) (s : State) (i : RingId) :
    (s.setCursor c v).ring i = s.ring i := rfl

@[simp] theorem setCursor_cells (c : CursorId) (v : Cursor) (s : State) :
    (s.setCursor c v).store.cells = s.store.cells := rfl

@[simp] theorem setCursor_cursor_same (c : CursorId) (v : Cursor) (s : State) :
    (s.setCursor c v).cursor c = v := Cursors.get_set_same _ _ _

theorem setCursor_cursor_other {c d : CursorId} (h : d ≠ c) (v : Cursor) (s : State) :
    (s.setCursor c v).cursor d = s.cursor d := Cursors.get_set_other _ h _

/-- A reset of the rings leaves no cell listed (R25). -/
@[simp] theorem Store.rewound_cells (st : Store) : st.rewound.cells = [] := rfl

end Sys2Proof.Machine
end

