-- ==== Sys2Proof/Laws/Receiver.lean ====
section
/-! SUPPORT. What a transition of LINE_IN and the transitions that a sample sees can do (R44, R45), and the column
that the operations in flight lead to (R127). -/

namespace Sys2Proof.Machine

/-- A transition keeps a character in assembly one, measured or not (R44, R50). -/
theorem Assembly.measure_keeps (l : LineSetup) (t : Nat) (a : Assembly) :
    (a.measure l t).t0 = a.t0 ∧ (a.measure l t).own = a.own ∧ (a.measure l t).next = a.next
    ∧ (a.measure l t).code = a.code := by
  simp only [Assembly.measure]
  repeat' split
  all_goals exact ⟨rfl, rfl, rfl, rfl⟩

/-- A call not confirmed leaves the receiver but for its counter. -/
@[simp] theorem callNotConfirmed_rx (s : State) : (callNotConfirmed s).receiver.state = s.receiver.state := by
  simp only [callNotConfirmed, enterFree, stopCounter]
  repeat' split
  all_goals simp

@[simp] theorem callNotConfirmed_setup (s : State) : (callNotConfirmed s).setup = s.setup := by
  simp only [callNotConfirmed]
  repeat' split
  all_goals simp

@[simp] theorem callNotConfirmed_pending (s : State) : (callNotConfirmed s).pending = s.pending := by
  simp only [callNotConfirmed]
  repeat' split
  all_goals simp

/-- LINE_IN at the level already makes no transition (R44). -/
theorem lineTo_same (time : Nat) (s : State) : lineTo s.lineIn time s = s := by
  cases h : s.lineIn <;> simp [lineTo, doMarkToSpace, doSpaceToMark, h]

/-- Seeing no waiting transition changes nothing. -/
theorem beforeSample_of_none (t : Nat) (s : State) (h : waitingTransitions t s = []) : beforeSample t s = s := by
  simp [beforeSample, h]

/-- With an empty queue nothing waits. -/
theorem waitingTransitions_empty (t : Nat) (s : State) (h : s.pending = []) : waitingTransitions t s = [] := by
  simp [waitingTransitions, h]

/-- The transition at the head of those that wait is seen first, and then the others. -/
theorem beforeSample_cons (t : Nat) (s : State) (x : Bool × Nat) (rest : List (Bool × Nat))
    (h : waitingTransitions t s = x :: rest) : beforeSample t s = rest.foldl seeTransition (seeTransition s x) := by
  simp [beforeSample, h]

/-- A transition not yet seen has its effect in its turn. -/
theorem takeTransition_new (o : Option State) (s : State) (h : s.receiver.ahead = 0) :
    takeTransition o s = happen o s := by
  simp [takeTransition, h]

/-- One that has been seen has had it. -/
theorem takeTransition_seen (o : Option State) (s : State) (n : Nat) (h : s.receiver.ahead = n + 1) :
    takeTransition o s = .next (s.setReceiver { s.receiver with ahead := n }) := by
  simp [takeTransition, h]

/-- The column reached is at most two past the column, and at least the column. -/
theorem columnReached_bounds (p : Printer) : p.column ≤ columnReached p ∧ columnReached p ≤ p.column + 2 := by
  simp only [columnReached]
  repeat' split
  all_goals omega

/-- With nothing in flight it is the column. -/
theorem columnReached_idle (p : Printer) (h : p.hammer = none) (c : p.carriage = .idle) :
    columnReached p = p.column := by
  simp [columnReached, h, c]

end Sys2Proof.Machine
end

