-- ==== Sys2Proof/Tests/Slice0.lean ====
section
/-! SUPPORT. Tests of the model, with expected values from the spec's rules, and a witness for the hypotheses of
each claim. -/

namespace Sys2Proof.Tests

open Sys2Proof Sys2Proof.Machine

/-! ## Helpers -/

/-- The state an outcome gives, or the reset state. -/
def after (o : Host.Outcome State Fault Refusal) : State :=
  match o with
  | .next t => t
  | _ => State.reset

def run (c : Instr) (s : State) : State := after (exec c s)

/-- The bytes going out on the host link. -/
def sent (s : State) : List Byte :=
  match s.link.out with
  | some o => o.bytes
  | none => []

def line (l : LineState) (s : State) : State := s.setController { s.controller with state := l }

def motor (m : MotorState) (s : State) : State := s.setMotor { state := m, runupEnds := none, idleEnds := none }

/-- Some of the usual table: E and 3 on code 1, LF 2, SPACE 4, BELL in figures 5, CR 8, WRU in figures 9, FIGS
27, LTRS 31. -/
def codes : Vector CodeEntry 64 :=
  (((((((((((((Vector.replicate 64 CodeEntry.null).set 1 ⟨.printing, 4, 0x45⟩).set 33 ⟨.printing, 20, 0x33⟩).set 2
    ⟨.lf, 0, 0x0A⟩).set 34 ⟨.lf, 0, 0x0A⟩).set 4 ⟨.space, 0, 0x20⟩).set 36 ⟨.space, 0, 0x20⟩).set 37
    ⟨.bell, 0, 0x07⟩).set 8 ⟨.cr, 0, 0x0D⟩).set 41 ⟨.wru, 0, 0x05⟩).set 27 ⟨.figs, 0, 0⟩).set 59
    ⟨.figs, 0, 0⟩).set 31 ⟨.ltrs, 0, 0⟩).set 63 ⟨.ltrs, 0, 0⟩

/-- Reset with that table, a two-code answer-back record and keys: E, REPEAT, RUBOUT, BREAK, FEED, MODE, HERE_IS
at positions 0 to 6. -/
def station : State :=
  State.reset.setTables
    { codes := codes
      keys :=
        (((((((Vector.replicate 64 KeyEntry.unused).set 0 (.code 1 (some .letters))).set 1 .repeatKey).set 2
          .rubout).set 3 .breakKey).set 4 .feed).set 5 .mode).set 6 .hereIs
      answerBack := [31, 1]
      refusal := [] }

/-- An answered call in ESTABLISHED, LINE_IN at mark, the motor running. -/
def call : State :=
  { motor .running station with
    lineIn := true
    controller :=
      { station.controller with state := .established, callKind := some .answered, markerOpen := true } }

/-- The keying of the line parameters at power-on: 20,000 us a unit, a stop of a unit and a half. -/
def keying : Keying := { unit := 20000, stop := 30000, order := .normal }

/-- Code 1 in flight since 0, its claim standing until 4,000 us. -/
def keyingE (s : State) : State :=
  s.setTransmitter { s.transmitter with state := .sending 0 1 keying, echo := some ⟨1, some 4000⟩ }

/-- The printer's held slot filled through PRINT-P. -/
def held (e : Entry) (s : State) : State :=
  s.setPrinter { s.printer with held := some { entry := e, cursor := .printP, moved := false }, unsure := false }

def heldE : Entry := .char 1 .letters (some .far) (some { quality := .good, distortion := 0 })

/-- The punch's held slot filled through PUNCH-T. -/
def heldPunch (e : Entry) (s : State) : State :=
  s.setPunch { s.punch with held := some { entry := e, cursor := .punchT, moved := false } }

def punching (s : State) : State := s.setModes { s.modes with source := .traffic }

/-- A character in assembly from t0 = 0, before sample n. -/
def assembling (n : Nat) (c : Code) (own : Bool) (s : State) : State :=
  s.setReceiver
    { s.receiver with
      state := .assembling { t0 := 0, own := own, next := n, code := c, early := 0, late := 0 } }

/-- A notice going out, which keeps the link busy. -/
def noticeGoing (s : State) : State :=
  s.setLink { s.link with out := some { bytes := [0xFF, 2, 1, 1], start := 0, reply := false } }

/-- The link with nothing on it. -/
def linkFree (s : State) : State := s.setLink State.reset.link

/-- A reply going out, which is still owed. -/
def replyGoing (s : State) : State :=
  s.setLink { s.link with out := some { bytes := [0xD1, 1, 0], start := 0, reply := true } }

/-! ## Ill-formed commands are refused by the check -/

theorem test_wf_payload_of_64 : (Instr.writeText (List.replicate 64 0)).wellFormed = true := by decide
theorem test_wf_payload_of_65 :
    (Instr.writeText (List.replicate 65 0)).wellFormed = false
    ∧ (Instr.writeCodes (List.replicate 65 0)).wellFormed = false
    ∧ (Instr.lineSetup (List.replicate 65 0)).wellFormed = false
    ∧ (Instr.printerSetup (List.replicate 65 0)).wellFormed = false
    ∧ (Instr.keyboardSetup (List.replicate 65 0)).wellFormed = false
    ∧ (Instr.punchSetup (List.replicate 65 0)).wellFormed = false
    ∧ (Instr.motorAndBellSetup (List.replicate 65 0)).wellFormed = false
    ∧ (Instr.ringLayout (List.replicate 65 0)).wellFormed = false
    ∧ (Instr.loadCodes (List.replicate 65 0)).wellFormed = false
    ∧ (Instr.loadKeys (List.replicate 65 0)).wellFormed = false
    ∧ (Instr.loadAnswerBack (List.replicate 65 0)).wellFormed = false
    ∧ (Instr.loadRefusalText (List.replicate 65 0)).wellFormed = false
    ∧ (Instr.setMode (List.replicate 65 0)).wellFormed = false
    ∧ (Instr.eventSetup (List.replicate 65 0)).wellFormed = false
    ∧ (Instr.eventClear (List.replicate 65 0)).wellFormed = false
    ∧ (Instr.unknownKind 3 (List.replicate 65 0)).wellFormed = false := by decide
theorem test_wf_known_kind :
    (Instr.unknownKind 0x7E []).wellFormed = false ∧ (Instr.unknownKind 0x7F []).wellFormed = true := by decide

/-! ## Reset and the host link (R183 to R187, R204, R205) -/

theorem test_power_on_is_reset : run (.powerOnReset false) State.reset = State.reset := by decide +kernel
theorem test_power_on_fast_link : (run (.powerOnReset true) call).link.fast = true := by decide +kernel
theorem test_framing_fault :
    (run (.hostFramingFault 7) station).link.resync = true
    ∧ (run (.hostFramingFault 7) station).events[15].data = 0 := by decide
theorem test_gap_clears_buffer :
    let s := station.setLink { station.link with buffer := .kind 0x50, gapFrom := some 100 }
    (run .interByteGapExpiry s).link.buffer = .empty ∧ (run .interByteGapExpiry s).events[15].count = 1 := by
  decide
/-- At 9,600 bit/s a byte's start bit comes 1,041.7 us before the end of its stop bit: 19,999.3 us after the
last stop bit at 100 when its own ends at 21,141, and 20,000.3 us after it at 21,142 (R184). -/
theorem test_byte_before_gap_expiry :
    let s := station.setLink { station.link with buffer := .kind 0x50, gapFrom := some 100 }
    (run (.hostByteReceived 2 21141) s).link.buffer = .payload 0x50 2 []
    ∧ (run (.hostByteReceived 2 21141) s).events[15].count = 0 := by decide
theorem test_byte_after_gap_expiry :
    let s := station.setLink { station.link with buffer := .kind 0x50, gapFrom := some 100 }
    (run (.hostByteReceived 2 21142) s).link.buffer = .kind 2
    ∧ (run (.hostByteReceived 2 21142) s).events[15].count = 1 := by decide
theorem test_overrun : (run .recordOverrun (replyGoing station)).events[15].data = 1 := by decide
theorem test_unknown_kind : sent (run (.unknownKind 3 [9]) station) = [0x80, 2, 6, 3] := by decide
theorem test_unknown_kind_waits :
    (run (.unknownKind 3 []) (noticeGoing station)).link.waiting = some (.record 0x80 [6, 3]) := by decide
/-- Four bytes of ten bits at 9,600 bit/s: 4,166.7 us, in whole microseconds 4,166 (R183, R187, log 13). -/
theorem test_record_end : (run .outgoingRecordEnd (noticeGoing station)).now = 4166 := by decide
theorem test_bytes_make_a_record :
    let s := (run (.hostByteReceived 0x33 10) station)
    let t := run (.hostByteReceived 2 1100) s
    let u := run (.hostByteReceived 2 2200) t
    sent (run (.hostByteReceived 5 3300) u) = [0xB3, 3, 0, 0, 5] := by decide
theorem test_length_above_64 :
    (run (.hostByteReceived 65 20) (run (.hostByteReceived 0x33 10) station)).link.resync = true := by decide
theorem test_restart :
    (run .restart call).controller.state = .clearing ∧ (run .restart call).tables = call.tables := by decide
theorem test_restart_reply : sent (run .restart station) = [0xFE, 1, 0] := by decide

/-! ## Setup, load and mode commands (R24, R28, R40, R42, R43, R86, R94, R124, R126, R127, R150, R181) -/

/-- Bu * U = 10,200,000 us: the clear threshold is raised to the next whole millisecond (R43). -/
theorem test_clear_threshold_raised :
    (run (.lineSetup [0x9C, 0x40, 150, 50, 0, 0, 255, 0x07, 0xD0, 0, 100, 30, 1, 0xF4, 0x0B, 0xB8, 35])
      station).setup.line.clearMs = 10201 := by decide
theorem test_line_setup_clamps :
    (sent (run (.lineSetup [0, 1, 150, 50, 0, 0, 15, 0x07, 0xD0, 0, 100, 30, 1, 0xF4, 0x0B, 0xB8, 35])
      station)).take 5 = [0x90, 18, 1, 0x13, 0x88] := by decide
theorem test_printer_width_waits :
    let s := station.setPrinter { station.printer with column := 60 }
    (run (.printerSetup [50, 0, 1, 3]) s).printer.waitingWidth = some 50
    ∧ sent (run (.printerSetup [50, 0, 1, 3]) s) = [0x91, 5, 0, 50, 0, 1, 3] := by decide
/-- A width at the column waits while an advance in flight leads past it (R127, R140). -/
theorem test_printer_width_waits_for_advance :
    let s := station.setPrinter { station.printer with column := 50, carriage := .advancing 5 }
    let t := run (.printerSetup [50, 0, 1, 3]) s
    t.printer.waitingWidth = some 50 ∧ t.setup.printer.width = 72 := by decide
theorem test_keyboard_setup_clamps :
    sent (run (.keyboardSetup [9, 1, 0xF4, 0, 0]) station) = [0x92, 6, 1, 8, 1, 0xF4, 0, 50] := by decide
theorem test_punch_setup_clamps : sent (run (.punchSetup [32, 31]) station) = [0x93, 3, 1, 31, 31] := by decide
theorem test_polarity_restarts_stability :
    let s := run (.motorAndBellSetup [5, 0xDC, 0, 20, 3, 0xE8, 1, 0, 0, 0, 0, 0]) (station.setNow 9)
    s.sense[0].since = 9 ∧ s.sense[0].assertedLow = true ∧ s.sense[1].since = 0 := by decide +kernel
theorem test_ring_layout_overlap :
    sent (run (.ringLayout [0, 0, 0, 17, 0, 16, 0, 16, 0, 32, 0, 16]) station) = [0x98, 1, 4] := by decide
theorem test_ring_layout_touching :
    sent (run (.ringLayout [0, 0, 0, 16, 0, 16, 0, 16, 0, 32, 0, 16]) station) = [0x98, 1, 0] := by decide
theorem test_load_codes_at_63 :
    (run (.loadCodes [63, 1, 63, 0x5A]) station).tables.codes[63] = ⟨.printing, 63, 0x5A⟩ := by decide
theorem test_load_codes_past_63 : sent (run (.loadCodes [63, 1, 0, 0, 1, 0, 0]) station) = [0xA0, 1, 7] := by
  decide
theorem test_load_keys_any_plane :
    (run (.loadKeys [63, 1, 95]) station).tables.keys[63] = .code 31 none
    ∧ sent (run (.loadKeys [0, 2, 1]) station) = [0xA1, 1, 7] := by decide
/-- Key 0, CODE and repeating, is no repeatable key once it is reloaded to RUBOUT; loaded with another code it
goes on (R114). -/
theorem test_load_keys_ends_repeat :
    let s := station.setKeyboard
      { station.keyboard with
        states := (station.keyboard.states.set 0 .down).set 1 .down
        repeating := some { key := 0, ends := 500000 } }
    (run (.loadKeys [0, 4, 0]) s).keyboard.repeating = none
    ∧ (run (.loadKeys [0, 1, 3]) s).keyboard.repeating = some { key := 0, ends := 500000 } := by decide
theorem test_load_answer_back : (run (.loadAnswerBack [31]) station).tables.answerBack = [31] := by decide
theorem test_load_refusal_text_range : sent (run (.loadRefusalText [32]) station) = [0xA3, 1, 7] := by decide
theorem test_set_mode_local :
    let s := run (.setMode [0, 1, 1, 0, 1, 1, 0]) station
    (s.cursor .printA).attached = true ∧ (s.cursor .printP).attached = false
    ∧ (s.cursor .punchT).attached = true := by decide

/-! ## LINE ACTION, PRINTER ACTION, PUNCH ACTION, MOTOR RESTART -/

theorem test_answer_wakes :
    let s := run .answer (line .unanswered station)
    s.controller.state = .waking ∧ entryBack s .traffic 1 = some .connect := by decide
theorem test_answer_reply : sent (run .answer (line .unanswered station)) = [0xB1, 5, 0, 4, 0, 0, 0] := by decide
theorem test_originate : (run .originate station).controller.originateTimer = .running 30000000 := by decide
theorem test_clear_of_an_attempt : (run .clear (line .originating station)).events[2].data = 2 := by decide
theorem test_clear_spacing : (run .clear call).transmitter.state = .clearSpacing := by decide
theorem test_break : (run .breakSend call).transmitter.breakPending = true := by decide
theorem test_here_is : (run .hereIs call).transmitter.sequencer = .request false := by decide
theorem test_halt_send : sent (run .haltSend call) = [0xB1, 5, 0, 5, 3, 0, 0] := by decide
theorem test_resume_send : (run .resumeSend (linkFree (run .haltSend call))).transmitter.halt = none := by decide
/-- The reply gives the two entries that waited (R104). -/
theorem test_cancel_send :
    let s := appendEntry .send (.erase none) (appendEntry .send (.erase none) call)
    sent (run .cancelSend s) = [0xB1, 5, 0, 5, 0, 0, 2] ∧ unread (run .cancelSend s) .xmit = 0 := by decide
theorem test_printer_stop_returns_entry :
    let s := (held heldE (writeTraffic heldE station)).setCursor .printP { r := 1, attached := true, lost := 0 }
    ((run .printerActionStop s).cursor .printP).r = 0 ∧ (run .printerActionStop s).printer.held = none := by
  decide
theorem test_printer_resume :
    (run .printerActionResume (linkFree (run .printerActionStop station))).printer.halts.host = false := by decide
theorem test_punch_stop : sent (run (.punchActionStop 9) station) = [0xB3, 3, 0, 4, 0] := by decide
theorem test_punch_resume : sent (run (.punchActionResume 9) station) = [0xB3, 3, 0, 0, 0] := by decide
theorem test_punch_feed_saturates :
    (run (.punchActionFeed 200) (station.setPunch { station.punch with feeds := 100 })).punch.feeds = 255 := by
  decide
theorem test_motor_restart : (run .motorRestart (motor .fault station)).motor.state = .stopped := by decide

/-! ## Text and reader commands (R15, R19 to R22, R34 to R37) -/

/-- E, then 3 behind a FIGS shift (R35). -/
theorem test_write_text_inserts_shift :
    let s := run (.writeText [0, 0x45, 0x33]) station
    (s.ring .send).w = 3 ∧ entryBack s .send 2 = some (.char 27 .figures none none)
    ∧ entryBack s .send 1 = some (.char 1 .figures none none) := by decide
theorem test_write_text_skips : sent (run (.writeText [1, 0x45, 0x7A]) station) = [0xC0, 3, 0, 1, 1] := by decide
theorem test_write_codes : sent (run (.writeCodes [0, 33, 95]) station) = [0xC1, 2, 0, 2] := by decide
theorem test_write_codes_range : sent (run (.writeCodes [0, 96]) station) = [0xC1, 1, 7] := by decide
/-- A FAR character of code 1 in LETTERS: kind and origin 0, code 1, GOOD and distortion 0, host character E. -/
theorem test_read_take :
    let s := (writeTraffic heldE station).setCursor .hostT { r := 0, attached := true, lost := 0 }
    sent (run (.readEntriesTake 4 0 15) s) = [0xC8, 8, 0, 0, 0, 1, 0, 1, 0, 0x45]
    ∧ unread (run (.readEntriesTake 4 0 15) s) .hostT = 0 := by decide
theorem test_read_peek :
    let s := (writeTraffic .clear (writeTraffic heldE station)).setCursor .hostT { r := 0, attached := true, lost := 0 }
    sent (run (.readEntriesPeek 4 1 15) s) = [0xC8, 8, 0, 0, 0, 1, 3, 0, 0, 0]
    ∧ unread (run (.readEntriesPeek 4 1 15) s) .hostT = 2 := by decide
theorem test_move_reader_clamps :
    let s := writeTraffic heldE station
    sent (run (.moveReader 0 2) s) = [0xC9, 11, 0, 0, 0, 0, 1, 0, 0, 0, 0, 0, 0]
    ∧ sent (run (.moveReader 0 2033) s) = [0xC9, 1, 7] := by decide
theorem test_attach : ((run (.attachHostReader 4) station).cursor .hostT).attached = true := by decide
theorem test_attach_range : sent (run (.attachHostReader 3) station) = [0xCA, 1, 7] := by decide
theorem test_detach :
    ((run (.detachHostReader 5) (linkFree (run (.attachHostReader 5) station))).cursor .hostL).attached = false
    := by decide

/-! ## STATUS, STATISTICS, EVENT SETUP, EVENT CLEAR (R200 to R203) -/

theorem test_status_length : (sent (run .status station)).length = 61 := by decide
/-- ESTABLISHED, ONLINE, punch source OFF (R202). -/
theorem test_status_fields : ((sent (run .status call)).drop 2).take 4 = [0, 5, 0, 0] := by decide
theorem test_statistics :
    let s := run .statistics (station.setPunch { station.punch with punched := 258 })
    s.punch.punched = 0 ∧ ((sent s).drop 21).take 2 = [1, 2] := by decide
theorem test_event_setup_last_decides :
    (run (.eventSetup [4, 1, 0, 4, 0, 3]) station).events[4] =
      { EventRecord.powerOn with enabled := false, priority := 3 } := by decide
theorem test_event_clear :
    let s := station.setEvents (occurs 4 none station)
    (run (.eventClear []) s).events[4].pending = false ∧ (run (.eventClear [5]) s).events[4].pending = true := by
  decide

/-! ## The line (R44 to R66, R71 to R85, R90 to R106) -/

theorem test_start_edge :
    (run (.lineInMarkToSpace 500) call).receiver.state =
      .assembling { t0 := 500, own := false, next := 0, code := 0, early := 0, late := 0 } := by decide
/-- A claim at T = 0 covers edges before T + floor(U/5) = 4,000 us (R46, log 22). -/
theorem test_claim_boundary :
    let s := keyingE call
    let own (t : Nat) : Bool :=
      match (run (.lineInMarkToSpace t) s).receiver.state with
      | .assembling a => a.own
      | _ => false
    own 3999 = true ∧ own 4000 = false := by decide
/-- A mark in FREE is confirmed 100 ms later (R69). -/
theorem test_mark_in_free : (run (.lineInSpaceToMark 7) station).controller.confirmTimer = some 100007 := by
  decide
theorem test_unit_sample :
    let s := run .unitSample (assembling 3 0 false call)
    let reversed := call.setSetup { call.setup with line := { call.setup.line with order := .reversed } }
    s.now = 70000
    ∧ s.receiver.state = .assembling { t0 := 0, own := false, next := 4, code := 4, early := 0, late := 0 }
    ∧ (run .unitSample (assembling 1 0 false reversed)).receiver.state =
      .assembling { t0 := 0, own := false, next := 2, code := 16, early := 0, late := 0 } := by decide
/-- A fall stamped with the microsecond of s_1 is seen by that sample, half a unit early of boundary 2, though
it waits behind it; in its turn it has had its effect (R45, R50). -/
theorem test_unit_sample_sees_its_microsecond :
    let s := after (step ((assembling 1 0 false call).setPending [.unitSample, .lineInMarkToSpace 30000]))
    s.receiver.state = .assembling { t0 := 0, own := false, next := 2, code := 0, early := 10000, late := 0 }
    ∧ s.lineIn = false ∧ (after (step s)).receiver = { s.receiver with ahead := 0 } := by decide
theorem test_false_start :
    let s := run .falseStart (assembling 0 0 false call)
    s.receiver.state = .hunting ∧ s.receiver.stats.falseStart = 1 ∧ s.now = 10000 := by decide
theorem test_character_completion :
    let s := run .characterCompletion (assembling 6 1 false call)
    entryBack s .traffic 1 = some heldE ∧ s.receiver.stats.good = 1 ∧ s.now = 130000 := by decide
theorem test_wru_makes_request :
    let s := (assembling 6 9 false call).setReceiver
      { (assembling 6 9 false call).receiver with linePlane := .figures }
    (run .characterCompletion s).transmitter.sequencer = .request true := by decide
theorem test_claim_withdrawn :
    let s := keyingE call
    (run .claimWithdrawn s).transmitter.halt = some .collision ∧ (run .claimWithdrawn s).now = 4000 := by decide
def spacing (s : State) : State :=
  s.setReceiver { s.receiver with run := some { start := 0, breakDone := false, clearDone := false } }
theorem test_break_threshold :
    (run .breakThresholdReached (spacing call)).events[3].count = 1
    ∧ (run .breakThresholdReached (spacing call)).now = 300000 := by decide
theorem test_clear_threshold :
    let s := run .clearThresholdReached (spacing call)
    s.controller.state = .free ∧ entryBack s .traffic 1 = some .clear ∧ s.now = 2000000 := by decide
def ringingIn (s : State) : State :=
  s.setController { s.controller with state := .callPending, confirmTimer := some 100 }
theorem test_call_confirmed_unanswered :
    (run .callConfirmed (ringingIn station)).controller.state = .unanswered
    ∧ (run .callConfirmed (ringingIn station)).events[0].count = 1 := by decide
theorem test_call_confirmed_answered :
    let s := (ringingIn (motor .running station)).setModes { station.modes with answering := true }
    (run .callConfirmed s).controller.state = .established
    ∧ (run .callConfirmed s).transmitter.sequencer = .request false := by decide
theorem test_originate_timeout :
    (run .originateTimeout (run .originate station)).controller.state = .free
    ∧ (run .originateTimeout (run .originate station)).now = 30000000 := by decide
theorem test_clear_timer :
    let s := run .clearTimerExpiry (run .clear call)
    s.controller.state = .free ∧ s.now = 3000000 ∧ entryBack s .traffic 1 = some .clear := by decide
/-- The shift guard: a FIGURES entry in LETTERS has FIGS sent first, and stays (R92, R93). -/
theorem test_shift_guard :
    let s := appendEntry .send (.char 1 .figures none none) call
    (run .characterBegin s).transmitter.state = .sending 0 27 keying ∧ unread (run .characterBegin s) .xmit = 1 := by
  decide
theorem test_character_begin :
    let s := appendEntry .send (.char 1 .letters none none) call
    (run .characterBegin s).transmitter.state = .sending 0 1 keying ∧ unread (run .characterBegin s) .xmit = 0 := by
  decide
/-- 6 * 20,000 + 30,000 (R60). -/
theorem test_character_end :
    let s := run .characterEnd (keyingE call)
    s.now = 150000 ∧ s.transmitter.sent = 1 ∧ s.transmitter.state = .idle := by decide
/-- A LINE SETUP of 5,000 us a unit, taken in FREE, leaves the character in flight its own end (R42, R84). -/
theorem test_character_keeps_its_timing :
    let setup := Instr.lineSetup [0x13, 0x88, 100, 50, 1, 0, 15, 7, 0xD0, 0, 100, 30, 1, 0xF4, 11, 0xB8, 35]
    let s := run setup (line .free (keyingE call))
    s.setup.line.unitLength = 5000 ∧ (run .characterEnd s).now = 150000 := by decide
/-- CLEAR in a sequence: the sequencer holds it until the character in flight has ended, so that a load before
is refused with STATE and one after is taken (R83, R94, R98). -/
theorem test_sequence_ends_with_its_character :
    let sending := keyingE call
    let s := linkFree (run .clear (sending.setTransmitter { sending.transmitter with sequencer := .answerBack [1] true }))
    sent (run (.loadAnswerBack [1]) s) = [0xA2, 1, 3] ∧ (run .characterEnd s).transmitter.sequencer = .empty
    ∧ (run .characterEnd s).events[4].pending = false
    ∧ sent (run (.loadAnswerBack [1]) (linkFree (run .characterEnd s))) = [0xA2, 1, 0] := by decide
theorem test_break_begin : (run .breakBegin (run .breakSend call)).transmitter.state = .breaking 500000 := by decide
theorem test_break_end :
    let s := (call.setTransmitter { call.transmitter with state := .breaking 500000 }).setLineIn false
    (run .breakEnd s).receiver.run = some { start := 500000, breakDone := false, clearDone := false } := by decide

/-! ## The keyboard (R108 to R124) -/

/-- The key at line 0 read at 8,000 us, the third reading with the condition present (R109). -/
theorem test_key_press :
    let s := station.setKeyboard { station.keyboard with states := station.keyboard.states.set 0 (.pressing 2) }
    (run (.keyReading 0 true) s).keyboard.states[0] = .down
    ∧ entryBack (run (.keyReading 0 true) s) .send 1 = some (.char 1 .letters none none) := by decide
theorem test_key_bounce :
    let s := station.setKeyboard { station.keyboard with states := station.keyboard.states.set 0 (.pressing 2) }
    (run (.keyReading 0 false) s).keyboard.states[0] = .up := by decide
/-- Key 3 read at 1,000 us is read again a scan later; key 4 of its line still at 1,000, key 8 at 2,000 (R108,
R111). -/
theorem test_reading_instant :
    let s := (station.setNow 1000).setKeyboard { station.keyboard with lastRead := some (1000, 3) }
    readingInstant s 3 = 9000 ∧ readingInstant s 4 = 1000 ∧ readingInstant s 8 = 2000 := by decide
/-- A FEED key demands the motor while its entry is DOWN, not while it is RELEASING (R168). -/
theorem test_feed_key_demand :
    let s (x : KeyState) := station.setKeyboard { station.keyboard with states := station.keyboard.states.set 4 x }
    startDemand (s .down) = true ∧ startDemand (s (.releasing 1)) = false := by decide
theorem test_repeat :
    let s := station.setKeyboard { station.keyboard with repeating := some { key := 0, ends := 500000 } }
    (run .repeatTimerExpiry s).keyboard.repeating = some { key := 0, ends := 600000 }
    ∧ (run .repeatTimerExpiry s).store.rings.send.w = 1 := by decide

/-! ## The print engine (R128 to R145) -/

theorem test_print_take :
    (run .printTake (writeTraffic heldE (motor .running station))).printer.held
      = some { entry := heldE, cursor := .printP, moved := false } := by decide
/-- From 0 to 4 the wheel goes forward (R129). -/
theorem test_wheel_travel :
    (run .wheelTravelBegin (held heldE (motor .running station))).printer.wheel = .travelling 4 true 750 := by
  decide
theorem test_wheel_step_wraps :
    let s := station.setPrinter { station.printer with wheel := .travelling 62 false 750 }
    (run .wheelStepEnd s).printer.wheelAt = 63 := by decide
theorem test_strike :
    let s := held heldE (motor .running station)
    let t := s.setPrinter { s.printer with wheelAt := 4 }
    (run .printActionBegin t).printer.hammer = some { ends := 10000, atWidth := false }
    ∧ (run .printActionBegin t).printer.strikes = 1 := by decide
/-- Four BELL entries at a quiet bell are consumed in one event and give four rings: one begun and three to come
(R135, R180). -/
theorem test_bells_in_one_event :
    let bell : Entry := .char 5 .figures (some .far) none
    let s := writeTraffic bell (writeTraffic bell (writeTraffic bell (motor .running station)))
    let t := run .printActionBegin (held bell s)
    t.bell = { count := 3, phase := .ringing 0 500 } ∧ t.printer.held = none ∧ unread t .printP = 0 := by decide
/-- 20,000 + 1,500 * 71 from the line width of 72 (R142). -/
theorem test_implicit_return :
    let s := held heldE (motor .running station)
    (run .implicitReturnBegin (s.setPrinter { s.printer with unsure := true })).printer.carriage
      = .returning 126500 := by decide
theorem test_implicit_newline :
    let s := held heldE (motor .running station)
    let t := run .implicitNewlineBegin (s.setPrinter { s.printer with column := 72 })
    t.printer.carriage = .returning 126500 ∧ t.printer.paper = some { ends := 35000, more := 0 } := by decide
/-- A SPACE waits for the feed of an implicit newline, and for no other (R137, R140). -/
theorem test_space_waits_for_newline :
    let s := held (.char 4 .letters (some .far) none) (motor .running station)
    let feeding := s.setPrinter { s.printer with newline := true, paper := some ⟨35000, 0⟩ }
    let fed := run .lineFeedComplete feeding
    actionReady feeding .space = false ∧ fed.printer.newline = false
    ∧ actionReady (fed.setPrinter { fed.printer with paper := some ⟨70000, 0⟩ }) .space = true := by decide
theorem test_strike_then_advance :
    let s := motor .running station
    (run .strikeComplete (s.setPrinter { s.printer with hammer := some ⟨10, false⟩ })).printer.carriage
      = .advancing 6010 := by decide
theorem test_margin_bell :
    let s := station.setPrinter { station.printer with carriage := .advancing 5, column := 63 }
    (run .advanceComplete s).printer.column = 64 ∧ (run .advanceComplete s).bell.count = 1 := by decide
theorem test_return_not_home :
    let s := station.setPrinter { station.printer with carriage := .returning 5, column := 9 }
    (run .returnComplete s).printer.column = 1 ∧ (run .returnComplete s).printer.halts.carriage = true
    ∧ (run .returnComplete s).events[12].data = 1 := by decide
theorem test_line_feed :
    let s := station.setPrinter { station.printer with paper := some { ends := 35000, more := 2 } }
    (run .lineFeedComplete s).printer.paper = some { ends := 70000, more := 1 } := by decide

/-! ## The punch engine (R151 to R164) -/

/-- Under FAR-only an OWN entry is passed over within the take (R152). -/
theorem test_punch_filter :
    let own : Entry := .char 2 .letters (some .own) (some { quality := .good, distortion := 0 })
    let s := motor .running (station.setModes { station.modes with source := .traffic, farOnly := true })
    let t := s.setCursor .punchT { r := 0, attached := true, lost := 0 }
    (run .punchTake (writeTraffic heldE (writeTraffic own t))).punch.held
      = some { entry := heldE, cursor := .punchT, moved := false } := by decide
theorem test_blank_cycle :
    let s := motor .running station
    (run .blankCycleBegin (s.setPunch { s.punch with feeds := 2 })).punch.work
      = some { step := .stroke 0 true, ends := some 20000, rest := [.feed false] } := by decide
theorem test_punch_erase :
    let s := heldPunch (.erase none) (punching (motor .running station))
    (run .punchActionBegin s).punch.runCount = 1
    ∧ (run .punchActionBegin s).punch.work
      = some { step := .stroke 31 true, ends := some 20000, rest := [.feed false] }
    ∧ (run .punchActionBegin (s.setPunch { s.punch with runCount := 2, eraseDepth := 1 })).punch.work
      = some { step := .back, ends := some 25000, rest := [.back, .stroke 31 false, .feed true, .feed true] } := by decide
/-- After a CONNECT with a leader of 0 the next entry is taken and its cycle begins within the event (R156,
R158). -/
theorem test_punch_goes_on :
    let s := station.setSetup { station.setup with punch := ⟨0, 0⟩ }
    let t := run .punchActionBegin (writeTraffic heldE (heldPunch .connect (punching (motor .running s))))
    t.punch.held = none ∧ t.punch.punched = 1
    ∧ t.punch.work = some { step := .stroke 1 true, ends := some 20000, rest := [.feed false] } := by decide
theorem test_punch_step :
    let s := motor .running station
    (run .punchStepComplete
      (s.setPunch { s.punch with work := some ⟨.stroke 0 true, some 20000, [.feed false]⟩ })).punch.work
      = some { step := .feed false, ends := some 45000, rest := [] } := by decide

/-! ## Motor, sense inputs and bell (R167 to R180) -/

theorem test_motor_runup :
    (run .motorRunupStart (writeTraffic heldE station)).motor
      = { state := .runup, runupEnds := some 1500000, idleEnds := none } := by decide
theorem test_runup_timeout :
    let s := run .runupTimeout (run .motorRunupStart (writeTraffic heldE station))
    s.motor.state = .fault ∧ s.events[12].data = 0 ∧ s.now = 1500000 := by decide
theorem test_idle_countdown :
    let s := station.setMotor { state := .running, runupEnds := none, idleEnds := some 9 }
    (run .idleCountdownExpiry s).motor.state = .stopped := by decide
theorem test_sense_pin : (run (.sensePinChange 5 true 30) station).sense[5].since = 30 := by decide
theorem test_paper_out :
    let s := run (.senseDebouncedChange 0) (run (.sensePinChange 0 true 30) station)
    s.now = 10030 ∧ s.printer.halts.paper = true ∧ s.events[9].count = 1 ∧ s.events[13].count = 1 := by decide
theorem test_ring_begin :
    (run .ringBegin (station.setBell { station.bell with count := 3 })).bell
      = { count := 2, phase := .ringing 0 500 } := by decide
theorem test_ring_end :
    (run .ringEnd (station.setBell { count := 2, phase := .ringing 0 500 })).bell
      = { count := 2, phase := .gap 150000 } := by decide
theorem test_gap_end :
    (run .gapEnd (station.setBell { count := 0, phase := .gap 150000 })).bell = { count := 0, phase := .quiet }
    := by decide

/-! ## The queue, the part's own steps and the pins -/

theorem test_queue_front :
    let s := after (step (station.setPending [.originate, .clear]))
    s.controller.state = .originating ∧ s.pending = [.clear] := by decide
theorem test_idle_tick : (after (step station)).now = 1 := by decide
theorem test_own_step : (after (step (station.setBell { count := 1, phase := .quiet }))).bell.count = 0 := by decide
/-- Code 1 in NORMAL order keys the start unit open, the first code unit closed, the second open (R60). -/
theorem test_line_key :
    let s (t : Nat) := (keyingE call).setNow t
    lineKeyClosed (s 19999) = false ∧ lineKeyClosed (s 20000) = true ∧ lineKeyClosed (s 40000) = false
    ∧ lineKeyClosed (s 120000) = true := by decide
/-- PHOLE is released in the feed after a stroke, and pulsed in a feed over a position already holed (R155). -/
theorem test_feed_hole :
    let s (x : PunchStep) := station.setPunch { station.punch with work := some ⟨x, some 25000, []⟩ }
    holeDriven (s (.feed true)) = true ∧ holeDriven (s (.feed false)) = false
    ∧ holeDriven (s (.stroke 0 true)) = true ∧ holeDriven (s (.stroke 31 false)) = false := by decide
/-- A bit lasts 104.2 us at 9,600 bit/s: 0xB4 has its start bit until 104, then 0, 0, 1, 0, 1, 1, 0, 1 from the
least significant bit, and the stop bit; HTX rests at the stop level (R183, R205). -/
theorem test_host_transmit :
    let s (t : Nat) :=
      (station.setLink { station.link with out := some { bytes := [0xB4], start := 0, reply := true } }).setNow t
    htx State.reset = true
    ∧ (List.range 12).map (fun k => htx (s (k * 104 + 50)))
      = [false, false, false, true, false, true, true, false, true, true, true, true] := by decide
theorem test_no_word_spells_a_command : decodeTableWord 8 0x7E = none := by decide

/-! ## Witnesses: for each claim with hypotheses, operands and states that meet them, clause by clause -/

theorem taken_station : CommandTaken station := ⟨rfl, rfl⟩
theorem taken_call : CommandTaken call := ⟨rfl, rfl⟩
theorem taken_line (l : LineState) : CommandTaken (line l call) := ⟨rfl, rfl⟩
theorem taken_notice : CommandTaken (noticeGoing call) := ⟨rfl, rfl⟩

theorem witness_EveryStepAnswersNext :
    station.pending = [] ∧ (∃ i s', ownStep (station.setBell { count := 1, phase := .quiet }) = some (i, s'))
    ∧ ownStep station = none := by
  refine ⟨rfl, ⟨.ringBegin, _, rfl⟩, by decide⟩

/-- A command that is neither a setup nor the RESET pin nor a byte, with a next state; and the two kinds of row
that change a printer value. -/
theorem witness_TablesAndSetupsKept :
    exec .originate call = .next (run .originate call) ∧ (∀ r, Instr.originate ≠ .powerOnReset r)
    ∧ (∀ b n, Instr.originate ≠ .hostByteReceived b n) ∧ (∀ p, Instr.originate ≠ .loadCodes p)
    ∧ (∀ p, Instr.originate ≠ .motorAndBellSetup p) ∧ (∀ p, Instr.originate ≠ .printerSetup p) ∧ Instr.originate ≠ .returnComplete
    ∧ exec .returnComplete (call.setPrinter { call.printer with carriage := .returning 5, waitingWidth := some 50 })
      = .next (run .returnComplete
          (call.setPrinter { call.printer with carriage := .returning 5, waitingWidth := some 50 })) := by
  refine ⟨rfl, ?_, ?_, ?_, ?_, ?_, ?_, rfl⟩ <;> intros <;> intro h <;> cases h

theorem witness_Restart : CommandTaken station ∧ CommandTaken (line .waking call) := ⟨⟨rfl, rfl⟩, ⟨rfl, rfl⟩⟩

theorem witness_HostBytes :
    let b (x : Buffer) : State := station.setLink { station.link with buffer := x, gapFrom := some 5 }
    let lost : State := station.setLink { station.link with resync := true, gapFrom := some 5 }
    lost.link.resync = true ∧ lost.link.gapFrom = some 5
    ∧ station.link.resync = false ∧ station.link.buffer = .empty
    ∧ (b (.kind 0x40)).link.buffer = .kind 0x40 ∧ 1 ≤ (1 : Byte).toNat ∧ (64 : Byte).toNat ≤ 64
    ∧ 64 < (65 : Byte).toNat
    ∧ (b (.payload 0x40 2 [])).link.buffer = .payload 0x40 2 [] ∧ ([] : List Byte).length + 1 < 2
    ∧ (b (.kind 0x40)).link.gapFrom = some 5 ∧ (b (.kind 0x40)).link.buffer ≠ .empty
    -- a byte whose start bit comes too late, after a gap that expires, and the latest that does not
    ∧ (5 + 20000) * 9600 + 10 * 1000000 < max (b (.kind 0x40)).now 21047 * 9600
    ∧ ¬ (5 + 20000) * 9600 + 10 * 1000000 < max (b (.kind 0x40)).now 21046 * 9600
    ∧ (b (.kind 0x40)).link.fast = false
    ∧ exec .interByteGapExpiry (b (.kind 0x40)) = .next (run .interByteGapExpiry (b (.kind 0x40))) := by
  refine ⟨by decide, by decide, by decide, by decide, by decide, by decide, by decide, by decide, by decide,
    by decide, by decide, by decide, by decide, by decide, by decide, rfl⟩

/-- Stamps at 9,600 bit/s: a byte after the byte before it, and one whose start bit comes at the last instant.
-/
theorem witness_BytesMakeTheRecord :
    station.link.fast = false ∧ station.link.resync = false ∧ station.link.buffer = .empty ∧ LinkServed station
    ∧ [1042, 2084, 23125].length = [(5 : Byte)].length + 2 ∧ [1042, 2084, 23125].getLast? = some 23125
    ∧ (∀ (i a b : Nat), [1042, 2084, 23125][i]? = some a → [1042, 2084, 23125][i + 1]? = some b →
        a ≤ b ∧ b * 9600 ≤ (a + 20000) * 9600 + 10 * 1000000)
    ∧ (List.replicate 64 (0 : Byte)).length ≤ 64
    ∧ (∀ (i a b : Nat), (List.replicate 66 7)[i]? = some a → (List.replicate 66 7)[i + 1]? = some b → a ≤ b) := by
  refine ⟨rfl, rfl, rfl, fun _ => ⟨rfl, by decide⟩, rfl, rfl, ?_, by decide, ?_⟩
  · rintro (_ | _ | _ | _) a b ha hb <;> simp at ha hb <;> omega
  · intro i a b ha hb
    simp only [List.getElem?_replicate, Option.ite_none_right_eq_some, Option.some.injEq] at ha hb
    omega

theorem witness_DispatchIsTheRow : (0x15 : Byte) ∉ commandKinds := by decide

theorem witness_OverrunAndUnknownKind :
    replyOwed (replyGoing station) = true ∧ (replyGoing station).link.resync = false
    ∧ isRecord .originate = true ∧ Instr.originate.wellFormed = true
    ∧ isRecord (.writeText (List.replicate 64 0)) = true
    ∧ (Instr.writeText (List.replicate 64 0)).wellFormed = true
    ∧ (0 : Byte) ∉ commandKinds ∧ (List.replicate 64 (0 : Byte)).length ≤ 64 := by decide

/-- A notice going out, with an event that waits for the link. -/
def eventWaits (e : Fin 16) (s : State) : State :=
  s.setEvents (s.events.set e { s.events[e] with enabled := true, pending := true, count := 1 })

theorem witness_RecordEndChoosesNext :
    let w (x : Option Reply) : State :=
      (noticeGoing station).setLink { (noticeGoing station).link with waiting := x }
    (w (some (.record 0xB4 [0, 0]))).link.waiting = some (.record 0xB4 [0, 0])
    ∧ (w (some (.record 0xB4 [0, 0]))).link.out = (noticeGoing station).link.out
    ∧ (w (some .status)).link.waiting = some .status
    ∧ (w none).link.waiting = none ∧ offered (w none) = none
    ∧ (eventWaits 13 (w none)).link.waiting = none ∧ offered (eventWaits 13 (w none)) = some 13 := by decide

theorem witness_NoticeForLowestPriority :
    EventsOk (eventWaits 15 (eventWaits 0 station)) ∧ offered (eventWaits 15 (eventWaits 0 station)) = some 0
    ∧ (eventWaits 15 (eventWaits 0 station)).link.out = none
    ∧ (eventWaits 15 (eventWaits 0 station)).link.waiting = none := by
  refine ⟨?_, by decide, rfl, rfl⟩
  unfold EventsOk
  decide

theorem witness_LineSetupCommand :
    CommandTaken station ∧ station.controller.state = .free ∧ CommandTaken call ∧ call.controller.state ≠ .free
    ∧ 1 < (2 : Byte).toNat ∧ (1 : Byte).toNat ≤ 1 := ⟨⟨rfl, rfl⟩, rfl, ⟨rfl, rfl⟩, by decide, by decide, by decide⟩

theorem witness_PrinterSetupCommand :
    CommandTaken station ∧ 1 < (2 : Byte).toNat ∧ (1 : Byte).toNat ≤ 1
    ∧ station.printer.column ≤ nearest 40 80 (39 : Byte).toNat
    ∧ nearest 40 80 (40 : Byte).toNat < (station.setPrinter { station.printer with column := 41 }).printer.column
    -- a width at the column waits for the advance in flight, and for the one that a strike leads to
    ∧ (let s := station.setPrinter { station.printer with column := 40, carriage := .advancing 5 };
        nearest 40 80 (40 : Byte).toNat < s.printer.column + 1 ∧ s.printer.carriage = .advancing 5)
    ∧ (let s := station.setPrinter { station.printer with column := 40, hammer := some ⟨5, false⟩ };
        nearest 40 80 (40 : Byte).toNat < s.printer.column + 1 ∧ s.printer.hammer = some ⟨5, false⟩) :=
  ⟨⟨rfl, rfl⟩, by decide, by decide, by decide, by decide, by decide, by decide⟩

theorem witness_KeyboardAndPunchSetup : CommandTaken station := ⟨rfl, rfl⟩

theorem witness_MotorAndBellSetup :
    CommandTaken station ∧ (∃ k : Fin 6, 1 < (#v[(0 : Byte), 0, 0, 0, 0, 2])[k].toNat)
    ∧ (∀ k : Fin 6, (#v[(1 : Byte), 0, 1, 0, 1, 1])[k].toNat ≤ 1) := ⟨⟨rfl, rfl⟩, by decide, by decide⟩

theorem witness_RingLayout :
    CommandTaken call ∧ call.controller.state ≠ .free
    ∧ CommandTaken station ∧ station.controller.state = .free ∧ station.printer.held = none
    ∧ station.punch.held = none ∧ station.transmitter.state = .idle
    -- a length of 15, two rings that share cell 15, and a layout that ends at cell 2,047
    ∧ num2 0 15 < 16 ∧ (num2 0 15 < num2 0 0 + num2 0 16 ∧ num2 0 15 ≤ 15)
    ∧ (∀ i : RingId,
        let base : Nat :=
          match i with
          | .traffic => num2 0 0
          | .send => num2 7 0xE0
          | .loc => num2 7 0xF0
        let len : Nat :=
          match i with
          | .traffic => num2 7 0xE0
          | .send => num2 0 16
          | .loc => num2 0 16
        16 ≤ len ∧ len ≤ 2032 ∧ base + len ≤ 2048) := by
  refine ⟨⟨rfl, rfl⟩, by decide, ⟨rfl, rfl⟩, rfl, rfl, rfl, rfl, by decide, by decide, ?_⟩
  intro i
  cases i <;> decide

theorem witness_LoadCodes :
    CommandTaken station ∧ 63 < (64 : Byte).toNat ∧ [((8 : Byte), (63 : Byte), (255 : Byte))].length ≤ 21
    -- accepted at the last index, and refused for 21 entries, for the index 64 and for a function 9
    ∧ ¬ (63 < (63 : Byte).toNat ∨ 20 < 1 ∨ 64 < (63 : Byte).toNat + 1 ∨ ∃ e ∈ [((8 : Byte), (63 : Byte), (255 : Byte))],
        8 < e.1.toNat ∨ 63 < e.2.1.toNat)
    ∧ 20 < (List.replicate 21 ((0 : Byte), (0 : Byte), (0 : Byte))).length ∧ 64 < (63 : Byte).toNat + 2
    ∧ (∃ e ∈ [((9 : Byte), (63 : Byte), (255 : Byte))], 8 < e.1.toNat ∨ 63 < e.2.1.toNat) :=
  ⟨⟨rfl, rfl⟩, by decide, by decide, by decide, by decide, by decide, by decide⟩

theorem witness_LoadKeys :
    CommandTaken station ∧ (List.replicate 31 ((1 : Byte), (95 : Byte))).length ≤ 31
    ∧ ¬ (63 < (33 : Byte).toNat ∨ 64 < (33 : Byte).toNat + (List.replicate 31 ((1 : Byte), (95 : Byte))).length
        ∨ ∃ e ∈ List.replicate 31 ((1 : Byte), (95 : Byte)),
          7 < e.1.toNat ∨ (e.1 = 1 ∧ 95 < e.2.toNat) ∨ (e.1 ≠ 1 ∧ e.2 ≠ 0))
    ∧ 64 < (34 : Byte).toNat + 31 ∧ 63 < (64 : Byte).toNat ∧ ([] : List (Byte × Byte)).length ≤ 31
    ∧ (∃ e ∈ [((1 : Byte), (96 : Byte))], 7 < e.1.toNat ∨ (e.1 = 1 ∧ 95 < e.2.toNat) ∨ (e.1 ≠ 1 ∧ e.2 ≠ 0))
    ∧ (∃ e ∈ [((0 : Byte), (1 : Byte))], 7 < e.1.toNat ∨ (e.1 = 1 ∧ 95 < e.2.toNat) ∨ (e.1 ≠ 1 ∧ e.2 ≠ 0))
    -- a key held as a CODE key, a kind that is not one, and a key that is not held
    ∧ (∃ code plane, station.tables.keys[0] = .code code plane)
    ∧ (station.keyboard.states.set 0 .down)[0].pressed = true ∧ (¬ ∃ code plane, KeyEntry.rubout = .code code plane)
    ∧ station.keyboard.states[0].pressed = false :=
  ⟨⟨rfl, rfl⟩, by decide, by decide, by decide, by decide, by decide, by decide, by decide,
    ⟨_, _, rfl⟩, by decide, (nomatch ·), by decide⟩

theorem witness_LoadRecords :
    CommandTaken station ∧ 20 < (List.replicate 21 (0 : Byte)).length
    ∧ (List.replicate 21 (0 : Byte)).length ≤ 64 ∧ (List.replicate 20 (31 : Byte)).length ≤ 20
    ∧ (¬ ∃ b ∈ List.replicate 20 (31 : Byte), 31 < b.toNat) ∧ (∃ b ∈ [(32 : Byte)], 31 < b.toNat)
    ∧ station.transmitter.sequencer = .empty
    ∧ CommandTaken (call.setTransmitter { call.transmitter with sequencer := .request false })
    ∧ (call.setTransmitter { call.transmitter with sequencer := .request false }).transmitter.sequencer ≠ .empty :=
  ⟨⟨rfl, rfl⟩, by decide, by decide, by decide, by decide, by decide, rfl, ⟨rfl, rfl⟩, by decide⟩

/-- An empty payload, one of 61, of 62 and of 64, and the least bad action bytes. -/
theorem witness_MalformedRecordRefused :
    CommandTaken station ∧ (List.replicate 64 (0 : Byte)).length ≤ 64
    ∧ ([] : List Byte).length ≠ 17 ∧ ([] : List Byte).length = 0
    ∧ 61 < (List.replicate 62 (0 : Byte)).length ∧ (List.replicate 62 (0 : Byte)).length ≤ 64
    ∧ (List.replicate 49 (0 : Byte)).length % 3 ≠ 0 ∧ 48 < (List.replicate 51 (0 : Byte)).length
    ∧ 16 < (List.replicate 17 (0 : Byte)).length ∧ [(0 : Byte)] ≠ []
    ∧ 7 < (8 : Byte).toNat ∧ 1 < (2 : Byte).toNat ∧ 2 < (3 : Byte).toNat :=
  ⟨⟨rfl, rfl⟩, by decide⟩

theorem witness_SetMode :
    CommandTaken station ∧ 1 < (2 : Byte).toNat ∧ 2 < (3 : Byte).toNat ∧ (1 : Byte).toNat ≤ 1
    ∧ CommandTaken (held heldE call) ∧ (2 : Byte).toNat ≤ 2 ∧ station.modes.station = .online ∧ station.modes.source = .off
    ∧ (StationMode.localMode ≠ station.modes.station) ∧ (PunchSource.loc ≠ station.modes.source)
    ∧ AttachedByMode station ∧ HeldThrough station
    ∧ HeldThrough (held heldE station) ∧ (held heldE station).printer.held ≠ none
    ∧ (station.setKeyboard { station.keyboard with locked := true }).keyboard.locked = true := by
  refine ⟨⟨rfl, rfl⟩, by decide, by decide, by decide, ⟨rfl, rfl⟩, by decide, rfl, rfl, by decide, by decide,
    ⟨rfl, rfl, rfl, rfl, rfl⟩, ⟨?_, ?_⟩, ⟨?_, ?_⟩, by decide, rfl⟩ <;>
  · intro h e
    cases e
    try rfl

theorem witness_OriginateAndClear :
    CommandTaken station ∧ station.controller.state = .free
    ∧ (∀ l, CommandTaken (line l call)) ∧ (line .clearing call).controller.state = .clearing
    ∧ (line .originating call).controller.state = .originating ∧ call.controller.state ≠ .free
    ∧ (line .callPending call).controller.state ≠ .free ∧ (line .callPending call).controller.state ≠ .clearing
    ∧ (line .callPending call).controller.state ≠ .originating :=
  ⟨⟨rfl, rfl⟩, rfl, fun _ => ⟨rfl, rfl⟩, rfl, rfl, by decide, by decide, by decide, by decide⟩

theorem witness_CallEntry : (line .unanswered station).controller.markerOpen = false := rfl

theorem witness_AnswerByAcceptance :
    CommandTaken (line .unanswered station) ∧ (line .unanswered station).controller.state = .unanswered
    ∧ (true = true ↔ Accepts (line .unanswered station))
    ∧ (false = true ↔ Accepts (motor .fault (line .unanswered station)))
    ∧ CommandTaken call ∧ call.controller.state ≠ .unanswered := by
  refine ⟨⟨rfl, rfl⟩, rfl, ?_, ?_, ⟨rfl, rfl⟩, by decide⟩ <;> unfold Accepts <;> decide

theorem witness_HaltAndResumeSend :
    CommandTaken call ∧ call.transmitter.halt = none
    ∧ CommandTaken (linkFree (run .haltSend call)) ∧ (run .haltSend call).transmitter.halt = some .host :=
  ⟨⟨rfl, rfl⟩, rfl, ⟨rfl, rfl⟩, by decide⟩

theorem witness_CancelHereIsAndBreak :
    CommandTaken call ∧ 8 ≤ (call.ring .send).len ∧ call.controller.state = .established
    ∧ CommandTaken station ∧ station.controller.state ≠ .established
    ∧ call.tables.answerBack ≠ [] ∧ call.transmitter.sequencer = .empty
    ∧ CommandTaken (call.setTables State.reset.tables) ∧ (call.setTables State.reset.tables).tables.answerBack = []
    ∧ (call.setTransmitter { call.transmitter with sequencer := .request true }).transmitter.sequencer ≠ .empty
    ∧ (call.setTransmitter { call.transmitter with state := .breaking 9 }).transmitter.state = .breaking 9
    ∧ (∀ ends, call.transmitter.state ≠ .breaking ends) :=
  ⟨⟨rfl, rfl⟩, by decide, rfl, ⟨rfl, rfl⟩, by decide, by decide, rfl, ⟨rfl, rfl⟩, rfl, by decide, rfl,
    fun _ h => by cases h⟩

theorem witness_EngineActions :
    CommandTaken station ∧ station.printer.held = none ∧ station.punch.held = none
    ∧ CommandTaken (held heldE station) ∧ (held heldE station).printer.halts.any = false
    ∧ (held heldE station).printer.held = some { entry := heldE, cursor := .printP, moved := false }
    ∧ (heldPunch heldE station).punch.halts.any = false
    ∧ (heldPunch heldE station).punch.held = some { entry := heldE, cursor := .punchT, moved := false }
    ∧ CommandTaken (linkFree (run .printerActionStop station))
    ∧ (run .printerActionStop station).printer.halts.any = true
    ∧ (0 : Byte) = 0 ∧ (255 : Byte) ≠ 0 :=
  ⟨⟨rfl, rfl⟩, rfl, rfl, ⟨rfl, rfl⟩, rfl, rfl, rfl, rfl, ⟨rfl, rfl⟩, by decide, rfl, by decide⟩

/-- FIGURES needed against LETTERS with FIGS (27) in the table and without, and the four ways to write alone. -/
theorem witness_ShiftInsertion :
    let t := station.tables
    let bare := State.reset.tables
    RingId.send ≠ .traffic ∧ Plane.figures ≠ writerPlane station .send
    ∧ ¬ lookup t .letters 1 = lookup t .figures 1
    ∧ ((lookup t .letters 27).fn = Plane.figures.shiftFn ∧ (lookup t .figures 27).fn = Plane.figures.shiftFn)
    ∧ (∀ e : Code, e.toNat < (27 : Code).toNat →
        ¬ ((lookup t .letters e).fn = Plane.figures.shiftFn ∧ (lookup t .figures e).fn = Plane.figures.shiftFn))
    ∧ (27 : Code) ≠ 1 ∧ 2 ≤ freeSpace station .send
    ∧ (∀ d : Code, ¬ ((lookup bare .letters d).fn = Plane.figures.shiftFn
        ∧ (lookup bare .figures d).fn = Plane.figures.shiftFn))
    ∧ lookup t .letters 4 = lookup t .figures 4 ∧ some Plane.letters = some (writerPlane station .send) := by
  refine ⟨by decide, by decide, by decide, by decide, ?_, by decide, by decide, ?_, by decide, by decide⟩
  · decide
  · decide

theorem witness_HostWrites :
    CommandTaken station ∧ (List.replicate 60 (0x45 : Byte)).length ≤ 60 ∧ 1 < (2 : Byte).toNat
    ∧ (∃ b ∈ [(96 : Byte)], 95 < b.toNat) ∧ (∀ b ∈ List.replicate 60 (95 : Byte), b.toNat ≤ 95)
    ∧ ((0 : Byte) = 0 ∧ RingId.send = .send) ∧ ((1 : Byte) = 1 ∧ RingId.loc = .loc) :=
  ⟨⟨rfl, rfl⟩, by decide, by decide, by decide, by decide, ⟨rfl, rfl⟩, ⟨rfl, rfl⟩⟩

theorem storeOk_reset : StoreOk State.reset := by
  have none_retained : ∀ i, retainedFit State.reset i := by
    intro i j h1 h2
    have : (State.reset.ring i).retained = 0 := by cases i <;> rfl
    omega
  refine ⟨rfl, ?_, ?_, ?_, ?_, ?_, ?_, none_retained _, none_retained _, none_retained _⟩ <;>
    first
      | (unfold Ring.ok; decide)
      | (unfold Ring.apart; decide)

theorem witness_ReadEntries :
    let s := State.reset.setCursor .hostT { r := 0, attached := true, lost := 0 }
    CommandTaken s ∧ ((3 : Byte) ≠ 4 ∧ (3 : Byte) ≠ 5) ∧ 15 < (16 : Byte).toNat ∧ 2031 < (2032 : Half).toNat
    ∧ (2031 : Half).toNat ≤ 2031 ∧ (15 : Byte).toNat ≤ 15 ∧ (s.cursor .hostT).attached = true ∧ StoreOk s
    ∧ unread s .hostT ≤ (s.ring CursorId.hostT.ring).retained ∧ (s.cursor .hostL).attached = false :=
  ⟨⟨rfl, rfl⟩, by decide, by decide, by decide, by decide, by decide, rfl, storeOk_reset, by decide, rfl⟩

theorem witness_MoveReader :
    CommandTaken station ∧ 6 < (7 : Byte).toNat ∧ 2032 < (2033 : Half).toInt ∧ (0xF80F : Half).toInt < -2032
    ∧ ¬ (6 < (6 : Byte).toNat ∨ (0xF810 : Half).toInt < -2032 ∨ 2032 < (0xF810 : Half).toInt)
    ∧ (6 : Byte) = byte CursorId.xmit.number ∧ (station.ring CursorId.xmit.ring).len ≤ 2032
    ∧ (station.ring CursorId.xmit.ring).w.toNat ≤ 2032 :=
  ⟨⟨rfl, rfl⟩, by decide, by decide, by decide, by decide, rfl, by decide, by decide⟩

theorem witness_AttachHostReader :
    let s := (station.setCursor .hostT { r := 0, attached := true, lost := 0 }).setCursor .hostL
      { r := 0xFFFFFE7F, attached := false, lost := 65535 }
    CommandTaken s ∧ (3 : Byte) ≠ 4 ∧ (3 : Byte) ≠ 5 ∧ ((4 : Byte) = 4 ∧ CursorId.hostT = .hostT)
    ∧ ((5 : Byte) = 5 ∧ CursorId.hostL = .hostL) ∧ (s.cursor .hostT).attached = true
    ∧ (s.cursor .hostL).attached = false ∧ (s.ring CursorId.hostL.ring).len < unread s .hostL
    ∧ (station.cursor .hostL).attached = false
    ∧ unread station .hostL ≤ (station.ring CursorId.hostL.ring).len :=
  ⟨⟨rfl, rfl⟩, by decide, by decide, ⟨rfl, rfl⟩, ⟨rfl, rfl⟩, rfl, rfl, by decide, rfl, by decide⟩

theorem witness_StatusReply :
    CommandTaken call ∧ call.link.out = none ∧ CommandTaken (noticeGoing call)
    ∧ (noticeGoing call).link.out = some { bytes := [0xFF, 2, 1, 1], start := 0, reply := false } :=
  ⟨⟨rfl, rfl⟩, rfl, ⟨rfl, rfl⟩, rfl⟩

theorem witness_StatisticsReply : CommandTaken call ∧ CommandTaken (noticeGoing call) := ⟨⟨rfl, rfl⟩, ⟨rfl, rfl⟩⟩

theorem witness_EventCommands :
    CommandTaken station ∧ (List.replicate 16 ((15 : Byte), (1 : Byte), (3 : Byte))).length ≤ 16
    ∧ (∃ e ∈ [((16 : Byte), (1 : Byte), (3 : Byte))], 15 < e.1.toNat ∨ 1 < e.2.1.toNat ∨ 3 < e.2.2.toNat)
    ∧ (¬ ∃ e ∈ List.replicate 16 ((15 : Byte), (1 : Byte), (3 : Byte)),
        15 < e.1.toNat ∨ 1 < e.2.1.toNat ∨ 3 < e.2.2.toNat)
    ∧ (List.replicate 16 (15 : Byte)).length ≤ 16 ∧ (∃ b ∈ [(16 : Byte)], 15 < b.toNat)
    ∧ (¬ ∃ b ∈ List.replicate 16 (15 : Byte), 15 < b.toNat) :=
  ⟨⟨rfl, rfl⟩, by decide, by decide, by decide, by decide, by decide, by decide⟩

theorem reset_cursorsBound : CursorsBound State.reset := by
  intro c
  cases c <;> decide

/-- Both premises together, and LOCAL with no cursor attached. -/
theorem witness_RingWrites :
    StoreOk State.reset ∧ CursorsBound State.reset ∧ RingId.send ≠ .traffic ∧ RingId.loc ≠ .traffic
    ∧ freeSpace State.reset .loc = 384 := ⟨storeOk_reset, reset_cursorsBound, by decide, by decide, by decide⟩

theorem witness_LineTransitions :
    call.lineIn = true ∧ call.controller.state ≠ .callPending
    ∧ (call.setLineIn false).lineIn = false
    ∧ (line .callPending call).controller.state = .callPending
    ∧ (line .callPending call).controller.originate = false
    ∧ (let s := (run .originate station).setLineIn true;
        (line .callPending s).controller.originate = true
        ∧ (line .callPending s).controller.originateTimer ≠ .expired
        ∧ (line .callPending s).lineIn = true)
    ∧ (let s := call.setController
          { call.controller with state := .callPending, originate := true, originateTimer := .expired };
        s.controller.originateTimer = .expired ∧ s.lineIn = true)
    ∧ call.receiver.ahead = 0
    ∧ (call.setReceiver { call.receiver with ahead := 1 }).receiver.ahead = 0 + 1 := by decide

theorem witness_SamplesOfACharacter :
    let a (n : Nat) (own : Bool) : Assembly := { t0 := 0, own := own, next := n, code := 0, early := 0, late := 0 }
    let meets (r : State) (t : Nat) (b a : Assembly) : Prop :=
      r.receiver.state = .assembling b ∧ (beforeSample t r).receiver.state = .assembling a
    meets (assembling 0 0 false (call.setLineIn false)) 10000 (a 0 false) (a 0 false)
    ∧ (beforeSample 10000 (assembling 0 0 false (call.setLineIn false))).lineIn = false
    ∧ meets (assembling 5 0 false call) 110000 (a 5 false) (a 5 false) ∧ 1 ≤ (a 5 false).next
    ∧ (a 5 false).next ≤ 5 ∧ meets (assembling 1 0 false call) 30000 (a 1 false) (a 1 false)
    ∧ meets (assembling 0 0 true call) 10000 (a 0 true) (a 0 true) ∧ (a 0 true).own = true
    ∧ meets (assembling 0 0 false call) 10000 (a 0 false) (a 0 false)
    ∧ (beforeSample 10000 (assembling 0 0 true call)).lineIn = true
    ∧ (beforeSample 10000 (assembling 0 0 false call)).lineIn = true
    -- a fall that waits, stamped at the sample's own instant, is seen; one stamped later is not
    ∧ meets ((assembling 1 0 false call).setPending [.status, .lineInMarkToSpace 30000]) 30000 (a 1 false)
        { a 1 false with early := 10000 }
    ∧ (beforeSample 30000 ((assembling 1 0 false call).setPending [.lineInMarkToSpace 30000])).lineIn = false
    ∧ (beforeSample 30000 ((assembling 1 0 false call).setPending [.lineInMarkToSpace 30001])).lineIn = true := by
  decide

theorem witness_CharacterCompletion :
    let r := assembling 6 1 false call
    let a : Assembly := { t0 := 0, own := false, next := 6, code := 1, early := 0, late := 0 }
    r.receiver.state = .assembling a ∧ (beforeSample 130000 r).receiver.state = .assembling a ∧ a.next = 6 := by
  decide

theorem witness_LineCodeRoundTrip :
    call.setup.line.inRange ∧ call.now ≤ 0
    ∧ (assembling 0 0 false call).receiver.state =
      .assembling { t0 := 0, own := false, next := 0, code := 0, early := 0, late := 0 }
    ∧ ∀ time, (.lineInMarkToSpace time ∈ (assembling 0 0 false call).pending
        ∨ .lineInSpaceToMark time ∈ (assembling 0 0 false call).pending) → 110000 < time := by
  refine ⟨?_, by decide, rfl, ?_⟩
  · unfold LineSetup.inRange
    decide
  · rintro time (h | h) <;> cases h

theorem witness_ClaimAndThresholds :
    (call.setTransmitter { call.transmitter with echo := some ⟨1, some 4000⟩ }).transmitter.echo
      = some { code := 1, claim := some 4000 }
    ∧ (spacing call).receiver.run = some { start := 0, breakDone := false, clearDone := false }
    ∧ (spacing call).controller.state = .established ∧ (spacing call).transmitter.state.isSending = false
    ∧ (spacing call).controller.markerOpen = true
    ∧ (spacing (keyingE call)).transmitter.state.isSending
      = true
    ∧ (spacing (line .unanswered station)).controller.state = .unanswered
    ∧ (spacing (line .waking station)).controller.markerOpen = false
    ∧ (spacing station).controller.state ∈ [LineState.free, .originating, .callPending, .clearing]
    ∧ (spacing station).controller.state ≠ .established := by decide

theorem witness_CallTimers :
    (ringingIn station).controller.state = .callPending ∧ (ringingIn station).controller.confirmTimer = some 100
    ∧ (ringingIn station).controller.originate = false ∧ (ringingIn station).modes.answering = false
    ∧ (ringingIn (station.setModes { station.modes with answering := true })).modes.answering = true
    ∧ Accepts (ringingIn station) ∧ ¬ Accepts (ringingIn (motor .fault station))
    ∧ (ringingIn (run .originate station)).controller.originate = true
    ∧ (run .originate station).controller.originateTimer = .running 30000000
    ∧ (run .originate station).controller.state = .originating
    ∧ (line .callPending (run .originate station)).controller.state = .callPending
    ∧ (run .clear call).controller.clearTimer = some 3000000 ∧ (run .clear call).controller.state = .clearing
    ∧ (run .clear call).controller.markerOpen = true
    ∧ (run .clear (line .callPending station)).controller.clearTimer = some 3000000
    ∧ (run .clear (line .callPending station)).controller.markerOpen = false := by
  refine ⟨rfl, rfl, rfl, rfl, rfl, ?_, ?_, rfl, rfl, rfl, rfl, by decide, by decide, by decide, by decide,
    by decide⟩ <;>
  · unfold Accepts
    decide

/-- What the transmitter may begin with: a sequence's code, a request, or the entry at XMIT. -/
theorem witness_CharacterBegin :
    let holding (q : Sequencer) : State := call.setTransmitter { call.transmitter with sequencer := q }
    let sending (e : Entry) : State := appendEntry .send e call
    call.transmitter.state = .idle ∧ call.receiver.state = .hunting ∧ call.controller.state = .established
    ∧ call.transmitter.breakPending = false ∧ (line .refusing call).controller.state = .refusing
    ∧ (holding (.answerBack [31, 1] true)).transmitter.sequencer = .answerBack [31, 1] true
    ∧ (line .refusing (holding (.refusal [1]))).transmitter.sequencer = .refusal [1]
    ∧ (holding (.request true)).transmitter.sequencer = .request true ∧ call.tables.answerBack = [31, 1]
    ∧ call.transmitter.sequencer.codesLeft = [] ∧ call.transmitter.sequencer.isRequest = false
    ∧ call.transmitter.halt = none ∧ 1 ≤ unread (sending (.erase none)) .xmit
    ∧ entryBack (sending (.erase none)) .send (unread (sending (.erase none)) .xmit) = some (.erase none)
    ∧ (let s := sending (.char 1 .figures none none);
        entryBack s .send (unread s .xmit) = some (.char 1 .figures none none)
        ∧ lookup s.tables .letters 1 ≠ lookup s.tables .figures 1 ∧ Plane.figures ≠ s.receiver.linePlane
        ∧ shiftCode s.tables .figures = some 27)
    ∧ (let s := sending (.char 1 .letters none none);
        entryBack s .send (unread s .xmit) = some (.char 1 .letters none none)
        ∧ ¬ (Plane.letters ≠ s.receiver.linePlane)) := by decide

theorem witness_CharacterEndAndBreak :
    let ending (q : Sequencer) : State :=
      call.setTransmitter { call.transmitter with state := .sending 0 1 keying, sequencer := q }
    let breaking : State := call.setTransmitter { call.transmitter with state := .breaking 9 }
    (ending .empty).transmitter.state = .sending 0 1 keying ∧ (line .clearing (ending .empty)).controller.state = .clearing
    ∧ (ending .empty).controller.state ≠ .clearing
    ∧ (ending (.answerBack [] true)).transmitter.sequencer = .answerBack [] true
    ∧ (ending (.refusal [])).transmitter.sequencer = .refusal []
    ∧ (ending .empty).transmitter.sequencer ≠ .refusal []
    ∧ call.controller.state = .established ∧ call.transmitter.state = .idle ∧ call.receiver.state = .hunting
    ∧ (run .breakSend call).transmitter.breakPending = true
    ∧ breaking.transmitter.state = .breaking 9 ∧ breaking.lineIn = true ∧ (breaking.setLineIn false).lineIn = false
    ∧ breaking.controller.state ∈ [LineState.callPending, .unanswered, .waking, .established, .refusing] := by
  decide

/-- A key that is neither pressed nor released by its reading, one of each key's kinds pressed at the third
reading, and one released. -/
theorem witness_KeyReading :
    let at3 (k : Fin 64) (x : KeyState) (s : State) : State :=
      s.setKeyboard { s.keyboard with states := s.keyboard.states.set k x }
    let loc : State := station.setModes { station.modes with station := .localMode }
    (at3 0 .up station).keyboard.states[(0 : Fin 64)] = .up ∧ ¬ station.setup.keyboard.debounce ≤ 1
    ∧ (at3 0 (.pressing 2) station).keyboard.states[(0 : Fin 64)] = .pressing 2
    ∧ station.setup.keyboard.debounce ≤ 2 + 1
    ∧ (at3 0 (.releasing 2) station).keyboard.states[(0 : Fin 64)] = .releasing 2
    ∧ station.tables.keys[0] = .code 1 (some .letters) ∧ station.tables.keys[1] = .repeatKey
    ∧ station.tables.keys[2] = .rubout ∧ station.tables.keys[3] = .breakKey ∧ station.tables.keys[4] = .feed
    ∧ station.tables.keys[5] = .mode ∧ station.tables.keys[6] = .hereIs ∧ station.tables.keys[63] = .unused
    ∧ station.modes.station = .online ∧ loc.modes.station = .localMode ∧ loc.keyboard.locked = false
    ∧ loc.tables.answerBack.length ≤ freeSpace loc .loc := by decide

theorem witness_RepeatCondition :
    let s := station.setKeyboard
      { station.keyboard with
        states := (station.keyboard.states.set 0 .down).set 1 .down
        repeating := some { key := 0, ends := 500000 } }
    let t := station.setKeyboard { station.keyboard with repeating := some { key := 2, ends := 9 } }
    let u := station.setKeyboard { station.keyboard with repeating := some { key := 63, ends := 9 } }
    s.keyboard.states[(1 : Fin 64)].pressed = true ∧ s.tables.keys[1] = .repeatKey
    ∧ (∀ j : Fin 64, (s.keyboard.states[j].pressed = true ∧ s.tables.keys[j] ≠ .repeatKey) ↔ j = 0)
    ∧ s.keyboard.barred[(0 : Fin 64)] = false
    ∧ s.tables.keys[0] = .code 1 (some .letters)
    ∧ s.keyboard.repeating = some { key := 0, ends := 500000 }
    ∧ t.keyboard.repeating = some { key := 2, ends := 9 } ∧ t.tables.keys[2] = .rubout
    ∧ u.keyboard.repeating = some { key := 63, ends := 9 } ∧ u.tables.keys[63] = .unused
    ∧ station.keyboard.states[(1 : Fin 64)].pressed = false := by decide

/-- An entry for the printer; for the punch one taken, one behind an OWN entry, and nothing but OWN entries. -/
theorem witness_EngineTakes :
    let own : Entry := .char 2 .letters (some .own) (some { quality := .good, distortion := 0 })
    let p (far : Bool) : State :=
      (motor .running (station.setModes { station.modes with source := .traffic, farOnly := far })).setCursor .punchT
        { r := 0, attached := true, lost := 0 }
    let a := writeTraffic heldE (p false)
    let b := writeTraffic heldE (writeTraffic own (p true))
    let c := writeTraffic own (p true)
    a.motor.state = .running ∧ a.printer.held = none ∧ a.printer.halts.any = false
    ∧ entryBack a .traffic (unread a (printCursor a) - 0) = some heldE
    ∧ punchCursor a = some .punchT ∧ a.punch.held = none ∧ a.punch.halts.any = false ∧ a.punch.feeds = 0
    ∧ a.modes.farOnly = false ∧ entryBack a .traffic (unread a .punchT - 0) = some heldE
    ∧ b.modes.farOnly = true ∧ entryBack b .traffic (unread b .punchT - 0) = some own
    ∧ entryBack b .traffic (unread b .punchT - 1) = some heldE
    ∧ c.modes.farOnly = true ∧ 0 < unread c .punchT ∧ unread c .punchT = 1
    ∧ entryBack c .traffic (unread c .punchT - 0) = some own := by decide

theorem witness_BeforePrintAction :
    let s := held heldE (motor .running station)
    let unsure := s.setPrinter { s.printer with unsure := true }
    let atWidth := s.setPrinter { s.printer with column := 72 }
    let h : Held := { entry := heldE, cursor := .printP, moved := false }
    s.printer.held = some h ∧ (lookup s.tables .letters 1).fn = .printing ∧ s.motor.state = .running
    ∧ s.printer.wheel = .idle ∧ s.printer.hammer = none ∧ s.printer.wheelAt ≠ (lookup s.tables .letters 1).glyph
    ∧ s.printer.carriage = .idle ∧ unsure.printer.unsure = true ∧ atWidth.printer.unsure = false
    ∧ atWidth.setup.printer.autoNewline = true ∧ atWidth.setup.printer.width ≤ atWidth.printer.column
    ∧ atWidth.printer.paper = none
    ∧ (s.setPrinter { s.printer with wheel := .travelling 4 true 750 }).printer.wheel = .travelling 4 true 750 := by
  decide

theorem witness_PrintActions :
    let g (c : Code) (p : Plane) : Entry := .char c p (some .far) (some { quality := .good, distortion := 0 })
    let s (e : Entry) : State := held e (motor .running station)
    let home (x : State) : Prop :=
      x.printer.unsure = false ∧ (x.printer.newline = false ∨ x.printer.paper = none) ∧ x.printer.hammer = none ∧ x.printer.carriage = .idle
      ∧ x.printer.paper = none ∧ x.motor.state = .running
    let struck := (s heldE).setPrinter { (s heldE).printer with wheelAt := 4, column := 71 }
    (lookup struck.tables .letters 1).fn = .printing ∧ struck.printer.wheelAt = (lookup struck.tables .letters 1).glyph
    ∧ struck.printer.wheel = .idle ∧ struck.printer.column < struck.setup.printer.width ∧ home struck
    ∧ (lookup station.tables .letters 4).fn = .space ∧ home (s (g 4 .letters))
    ∧ (lookup station.tables .letters 8).fn = .cr ∧ (lookup station.tables .letters 2).fn = .lf
    ∧ (lookup station.tables .figures 5).fn = .bell
    ∧ (lookup station.tables .figures 9).fn ∈ [CodeFn.null, .ltrs, .figs, .wru]
    ∧ home (s .connect) ∧ home (s (.erase none)) ∧ home (s .clear) ∧ station.printer.column ≤ 1
    ∧ station.setup.printer.endFeeds ≠ 0
    ∧ (let x := station.setSetup { station.setup with printer := ⟨72, 64, false, 0⟩ };
        x.setup.printer.autoNewline = false ∧ x.setup.printer.endFeeds = 0
        ∧ x.setup.printer.width ≤ (x.setPrinter { x.printer with column := 72 }).printer.column) := by decide

theorem witness_PrintCompletions :
    let p (x : Printer) : State := station.setPrinter x
    (p { station.printer with hammer := some ⟨10, true⟩ }).printer.hammer = some ⟨10, true⟩
    ∧ (p { station.printer with carriage := .advancing 5 }).printer.carriage = .advancing 5
    ∧ (p { station.printer with carriage := .returning 5 }).printer.carriage = .returning 5
    ∧ station.sense[4].debounced = false
    ∧ (station.setSense (station.sense.set 4 { station.sense[4] with debounced := true })).sense[4].debounced = true
    ∧ (p { station.printer with paper := some ⟨5, 0⟩ }).printer.paper = some ⟨5, 0⟩
    ∧ (p { station.printer with paper := some ⟨5, 14⟩ }).printer.paper = some ⟨5, 13 + 1⟩ := by decide

theorem witness_PunchWorkAndSteps :
    let s (e : Entry) : State := heldPunch e (punching (motor .running station))
    let deep (d n : Nat) : State :=
      (s (.erase none)).setPunch { (s (.erase none)).punch with eraseDepth := d, runCount := n }
    let own : Entry := .char 1 .letters (some .own) (some { quality := .good, distortion := 0 })
    let far (x : State) : State := x.setModes { x.modes with farOnly := true }
    let h (e : Entry) : Held := { entry := e, cursor := .punchT, moved := false }
    (s heldE).motor.state = .running ∧ (s heldE).punch.halts.any = false ∧ (s heldE).punch.work = none
    ∧ 1 ≤ ((s heldE).setPunch { (s heldE).punch with feeds := 1 }).punch.feeds
    ∧ (s heldE).punch.held = some (h heldE) ∧ (s heldE).punch.feeds = 0
    ∧ (s heldE).modes.farOnly = false
    ∧ (far (s own)).modes.farOnly = true ∧ (far (s own)).punch.held = some (h own)
    ∧ (deep 7 8).punch.eraseDepth + 1 ≤ 8 ∧ (deep 7 8).punch.eraseDepth + 1 ≤ (deep 7 8).punch.runCount
    ∧ 8 < (deep 8 9).punch.eraseDepth + 1 ∧ (deep 7 7).punch.runCount < (deep 7 7).punch.eraseDepth + 1
    ∧ (s .connect).punch.held = some (h .connect) ∧ (s .clear).punch.held = some (h .clear)
    ∧ (let w (rest : List PunchStep) : PunchWork := ⟨.stroke 0 true, some 20000, rest⟩;
        (station.setPunch { station.punch with work := some (w []) }).punch.work = some (w [])
        ∧ (station.setPunch { station.punch with work := some (w [.feed false]) }).punch.work = some (w [.feed false])
        ∧ (w [.feed false]).ends = some 20000 ∧ station.motor.state ≠ .running) := by decide

/-- A letter that the printer has yet to take is a start demand; the station at rest makes none. -/
theorem demands_unread (m : MotorState) : Demands (motor m (writeTraffic heldE station)) := by
  have h : 0 < unread (writeTraffic heldE station) .printP := by decide
  exact .inr (.inl ⟨rfl, .inr h⟩)

theorem no_demand (m : Motor) : ¬ Demands (station.setMotor m) := by
  rintro (h | ⟨_, h | h⟩ | ⟨_, h | h | ⟨c, h, _⟩⟩ | ⟨k, h, _⟩)
  · cases h
  · exact h rfl
  · exact absurd (show 0 < unread station .printP from h) (by decide)
  · exact absurd h (Nat.lt_irrefl 0)
  · exact h rfl
  · cases h
  · exact absurd h ((by decide : ∀ k : Fin 64, ¬ station.keyboard.states[k] = .down) k)

theorem witness_MotorAndBell :
    let asked := writeTraffic heldE station
    (motor .stopped asked).motor.state = .stopped ∧ Demands (motor .stopped asked)
    ∧ (run .motorRunupStart asked).motor = { state := .runup, runupEnds := some 1500000, idleEnds := none }
    ∧ (station.setMotor ⟨.running, none, some 9⟩).motor = ⟨.running, none, some 9⟩
    ∧ ¬ Demands (station.setMotor ⟨.running, none, some 9⟩)
    ∧ station.controller.state ∈ [LineState.free, .originating, .callPending, .unanswered]
    ∧ Demands (motor .running asked) ∧ CommandTaken station ∧ station.motor.state ≠ .fault
    ∧ CommandTaken (motor .fault asked) ∧ Demands (motor .fault asked)
    ∧ CommandTaken (motor .fault station) ∧ ¬ Demands (motor .fault station)
    ∧ station.bell.phase = .quiet ∧ 1 ≤ (station.setBell { count := 1, phase := .quiet }).bell.count
    ∧ (station.setBell { count := 3, phase := .ringing 0 500 }).bell.phase = .ringing 0 500
    ∧ (station.setBell { count := 1, phase := .gap 7 }).bell.phase = .gap 7
    ∧ (station.setBell { count := 0, phase := .gap 7 }).bell.count = 0 :=
  ⟨rfl, demands_unread _, by decide, rfl, no_demand _, by decide, demands_unread _, ⟨rfl, rfl⟩, by decide, ⟨rfl, rfl⟩,
    demands_unread _, ⟨rfl, rfl⟩, no_demand _, rfl, by decide, rfl, rfl, rfl⟩

theorem witness_SenseInputs :
    let up (k : Fin 6) (s : State) : State := s.setSense (s.sense.set k { s.sense[k] with pin := true })
    let was (k : Fin 6) (s : State) : State := s.setSense (s.sense.set k { s.sense[k] with debounced := true })
    let diverting :=
      (up 0 station).setModes { station.modes with divert := true }
    station.sense[(5 : Fin 6)].pin ≠ true
    ∧ (∀ k : Fin 6, ((up k station).sense[k].pin != (up k station).sense[k].assertedLow)
        ≠ (up k station).sense[k].debounced)
    ∧ (∀ k : Fin 6, ((was k station).sense[k].pin != (was k station).sense[k].assertedLow)
        ≠ (was k station).sense[k].debounced)
    ∧ (motor .runup station).motor.state = .runup ∧ call.motor.state = .running ∧ station.motor.state ≠ .running
    ∧ CursorsBound (up 0 station)
    ∧ ¬ (station.modes.divert = true)
    ∧ ((diverting.cursor .printP).attached = true ∧ diverting.modes.source = .off ∧ diverting.modes.divert = true
        ∧ diverting.sense[2].debounced = false) ∧ CursorsBound diverting := by
  refine ⟨by decide, by decide, by decide, rfl, rfl, by decide, ?_, by decide, by decide, ?_⟩ <;>
  · intro c
    cases c <;> decide

/-! ### The invariants -/

theorem witness_StoreStaysOk :
    let s := State.reset.setPending [.writeCodes [0, 95]]
    StoreOk s ∧ step s = .next (after (step s)) ∧ (after (step s)).store.rings.send.w = 1 :=
  ⟨storeOk_reset, rfl, by decide⟩

theorem witness_CursorsStayBound :
    let s := State.reset.setPending [.attachHostReader 4]
    StoreOk s ∧ HeldThrough s ∧ CursorsBound s ∧ UnreadRetained s ∧ step s = .next (after (step s)) := by
  refine ⟨storeOk_reset, ⟨?_, ?_⟩, reset_cursorsBound, ⟨?_, ?_⟩, rfl⟩
  · intro h e
    cases e
  · intro h e
    cases e
  · intro c _
    cases c <;> decide
  · rintro h (e | e) <;> cases e

theorem witness_LineStaysConsistent :
    let s := (call.setTransmitter { call.transmitter with sequencer := .request true }).setPending [.clear]
    MarkerFollowsLine s ∧ ClearSpacingOk s ∧ CallTimersOk s ∧ SequencerFollowsLine s
    ∧ step s = .next (after (step s)) := by
  refine ⟨?_, ?_, ?_, rfl, rfl⟩
  · unfold MarkerFollowsLine
    decide
  · unfold ClearSpacingOk
    decide
  · refine ⟨rfl, ?_, ?_, ?_⟩
    · intro h
      cases h
    · intro h
      cases h
    · decide

theorem witness_StationStaysConsistent :
    let s := (held heldE call).setPending [.setMode [0, 1, 1, 0, 1, 1, 0]]
    AttachedByMode s ∧ HeldThrough s ∧ HaltedHoldNothing s ∧ MotorTimersOk s ∧ step s = .next (after (step s)) := by
  refine ⟨⟨rfl, rfl, rfl, rfl, rfl⟩, ⟨?_, ?_⟩, ⟨?_, ?_⟩, ⟨rfl, ?_⟩, rfl⟩ <;> intro h
  · intro e
    cases e
    rfl
  · intro e
    cases e
  · cases h
  · cases h
  · cases h

theorem setupInRange_station : SetupInRange station := by
  unfold SetupInRange LineSetup.inRange PrinterSetup.inRange KeyboardSetup.inRange MotorSetup.inRange
  refine ⟨by decide, by decide, by decide, by decide, by decide, by decide, ?_⟩
  intro w h
  cases h

theorem countsOk_station : CountsOk station := by
  refine ⟨by decide, by decide, by decide, by decide, by decide, by decide, by decide, by decide, by decide,
    by decide, by decide, by decide, by decide, by decide, by decide, ?_⟩
  intro c
  cases c <;> decide

theorem witness_ValuesStayInRange :
    let s := station.setPending [.printerSetup [255, 255, 1, 255]]
    CountsOk s ∧ SetupInRange s ∧ ColumnOnLine s ∧ step s = .next (after (step s)) :=
  ⟨countsOk_station, setupInRange_station, ⟨by decide, by decide⟩, rfl⟩

theorem witness_LinkStaysServed :
    let s := (eventWaits 13 (noticeGoing station)).setPending [.status]
    EventsOk s ∧ SenseTold s ∧ LinkServed s ∧ OneReplyOwed s ∧ step s = .next (after (step s)) := by
  refine ⟨?_, fun _ => by decide, ?_, ?_, rfl⟩
  · unfold EventsOk
    decide
  · intro h
    cases h
  · intro o h
    cases h
    intro h
    cases h

end Sys2Proof.Tests
end

section
/-! RING LAYOUT (R24): its two checks as propositions, the ring reset of R25 field by field, and the
claim O17. -/

namespace Sys2Proof.Machine

/-! ## Commands that answer -/

/-- A command whose meaning is a host record answers with the record its action gives; the state it answers
from is the action's own up to the host link. -/
theorem answers_of_act {c : Instr} {n : Nat} {act : State → Reply × State} {s t : State} {kind : Byte}
    {payload : List Byte} (run : exec c s = finish (hostRecord n act s)) (taken : CommandTaken s) (hn : n ≤ 64)
    (acts : act (emptyBuffer s) = (.record kind payload, t.setLink (emptyBuffer s).link)) (now : t.now = s.now) :
    Answers c s kind payload t := by
  unfold Answers
  rw [run, finish_taken n act s _ kind payload taken hn acts rfl now]
  rfl

/-- A command whose action refuses it is refused. -/
theorem refuses_of_act {c : Instr} {n : Nat} {act : State → Reply × State} {s : State} {kind status : Byte}
    (run : exec c s = finish (hostRecord n act s)) (taken : CommandTaken s) (hn : n ≤ 64)
    (acts : act (emptyBuffer s) = refuse kind status (emptyBuffer s)) :
    Refuses c s (kind + 0x80) status :=
  answers_of_act run taken hn acts rfl

/-! ## The keyboard lock (R119) -/

/-- With 8 free cells or more the test leaves the lock released, whether it was set or not. -/
theorem testLock_of_free (s : State) (h : 8 ≤ freeSpace s (destination s)) :
    testLock s = s.setKeyboard { s.keyboard with locked := false } := by
  unfold testLock
  cases hl : s.keyboard.locked with
  | true => simp [h]
  | false =>
    have same : { s.keyboard with locked := false } = s.keyboard := by rw [← hl]
    rw [same]
    rfl

/-! ## The ring reset (R25) -/

@[simp] theorem Cursors.get_rewound (cs : Cursors) (c : CursorId) : cs.rewound.get c = (cs.get c).rewound := by
  cases c <;> rfl

theorem Store.get_rewound_rings (st : Store) (i : RingId) : st.rewound.rings.get i = (st.rings.get i).rewound := by
  cases i <;> rfl

/-- A ring reset leaves nothing unread. -/
theorem unread_of_rewound {s : State} {st : Store} (h : s.store = st.rewound) (c : CursorId) : unread s c = 0 := by
  have hw : (s.ring c.ring).w = 0 := by rw [State.ring, h, Store.get_rewound_rings]; rfl
  have hr : (s.cursor c).r = 0 := by
    rw [State.cursor, h]
    exact congrArg Cursor.r (Cursors.get_rewound st.cursors c)
  simp [unread, hw, hr]

/-- A ring whose readers have nothing unread is free over its whole length (R13). -/
theorem freeSpace_of_read {s : State} (h : ∀ c, unread s c = 0) (i : RingId) : freeSpace s i = (s.ring i).len := by
  have none_held (c : CursorId) : holding s c = 0 := by simp [holding, h]
  cases i <;> simp [freeSpace, maxUnread, none_held]

/-- A ring reset where each ring has 8 cells or more: the store rewound, no marker open, the lock released. -/
theorem resetRings_eq (s : State) (h : ∀ i, 8 ≤ (s.ring i).len) :
    resetRings s =
      { s with
        store := s.store.rewound
        controller := { s.controller with markerOpen := false }
        keyboard := { s.keyboard with locked := false } } := by
  unfold resetRings
  rw [testLock_of_free]
  · rfl
  · rw [freeSpace_of_read (unread_of_rewound (st := s.store) rfl), State.ring, State.setController_store,
      State.setStore_store, Store.get_rewound_rings]
    exact h _

/-! ## The two checks (R24) -/

theorem ringFits_iff (base len : Nat) :
    ringFits base len = true ↔ 16 ≤ len ∧ len ≤ 2032 ∧ base + len ≤ 2048 := by
  simp only [ringFits, Bool.and_eq_true, decide_eq_true_eq, and_assoc]
  rfl

/-- Two rings, neither of them empty, lie apart just when no cell lies in both. -/
theorem ringsApart_iff {b₁ l₁ b₂ l₂ : Nat} (h₁ : 0 < l₁) (h₂ : 0 < l₂) :
    ringsApart b₁ l₁ b₂ l₂ = true ↔
      ∀ cell, b₁ ≤ cell ∧ cell < b₁ + l₁ → ¬ (b₂ ≤ cell ∧ cell < b₂ + l₂) := by
  simp only [ringsApart, Bool.or_eq_true, decide_eq_true_eq]
  constructor
  · intro apart cell
    omega
  · intro disjoint
    -- the higher of the two bases would lie in both rings
    have := disjoint (max b₁ b₂)
    omega

/-- The state check of R24. -/
theorem layoutReady_iff (s : State) :
    layoutReady s = true ↔
      s.controller.state = .free ∧ s.printer.held = none ∧ s.punch.held = none ∧ s.transmitter.state = .idle := by
  simp [layoutReady, and_assoc]

/-- The layout check of R24: each ring has a place it may have, and no cell lies in two rings. -/
theorem layoutOk_iff (base len : RingId → Nat) :
    layoutOk (base .traffic) (len .traffic) (base .send) (len .send) (base .loc) (len .loc) = true ↔
      (∀ i, 16 ≤ len i ∧ len i ≤ 2032 ∧ base i + len i ≤ 2048)
      ∧ ∀ i j cell, i ≠ j → base i ≤ cell ∧ cell < base i + len i →
          ¬ (base j ≤ cell ∧ cell < base j + len j) := by
  have fits : (∀ i, ringFits (base i) (len i) = true) ↔
      ∀ i, 16 ≤ len i ∧ len i ≤ 2032 ∧ base i + len i ≤ 2048 := forall_congr' fun i => ringFits_iff _ _
  simp only [layoutOk, Bool.and_eq_true]
  constructor
  · rintro ⟨⟨⟨⟨⟨ft, fs⟩, fl⟩, ts⟩, tl⟩, sl⟩
    have places := fits.1 (by rintro (_ | _ | _) <;> assumption)
    have nonempty i : 0 < len i := by have := (places i).1; omega
    rw [ringsApart_iff (nonempty _) (nonempty _)] at ts tl sl
    refine ⟨places, fun i j cell ne hi hj => ?_⟩
    cases i <;> cases j
    case traffic.send => exact ts cell hi hj
    case traffic.loc => exact tl cell hi hj
    case send.loc => exact sl cell hi hj
    case send.traffic => exact ts cell hj hi
    case loc.traffic => exact tl cell hj hi
    case loc.send => exact sl cell hj hi
    all_goals exact ne rfl
  · rintro ⟨places, disjoint⟩
    have nonempty i : 0 < len i := by have := (places i).1; omega
    have apart {i j : RingId} (ne : i ≠ j) : ringsApart (base i) (len i) (base j) (len j) = true :=
      (ringsApart_iff (nonempty i) (nonempty j)).2 fun cell => disjoint i j cell ne
    exact ⟨⟨⟨⟨⟨fits.2 places _, fits.2 places _⟩, fits.2 places _⟩, apart nofun⟩, apart nofun⟩, apart nofun⟩

/-! ## The effect of an accepted layout -/

/-- The machine after a layout is accepted, field by field; `layOut_eq` ties it to the model's `layOut`. -/
def laidOut (base len : RingId → Nat) (s : State) : State :=
  { s with
    store :=
      { cells := []
        rings :=
          { traffic := Ring.fresh (base .traffic) (len .traffic), send := Ring.fresh (base .send) (len .send),
            loc := Ring.fresh (base .loc) (len .loc) }
        cursors := s.store.cursors.rewound
        sendPlane := .letters
        locPlane := .letters }
    controller := { s.controller with markerOpen := false }
    keyboard := { s.keyboard with locked := false } }

theorem layOut_eq (base len : RingId → Nat) (h : ∀ i, 16 ≤ len i) (s : State) :
    layOut (base .traffic) (len .traffic) (base .send) (len .send) (base .loc) (len .loc) s
      = laidOut base len s := by
  unfold layOut
  rw [resetRings_eq]
  · rfl
  · intro i
    have := h i
    cases i <;> exact Nat.le_trans (by decide) this

theorem laidOut_ring (base len : RingId → Nat) (s : State) (i : RingId) :
    (laidOut base len s).ring i =
      { base := base i, len := len i, w := 0, place := base i, filled := false } := by
  cases i <;> rfl

theorem laidOut_cursor (base len : RingId → Nat) (s : State) (c : CursorId) :
    (laidOut base len s).cursor c = { s.cursor c with r := 0, lost := 0 } :=
  Cursors.get_rewound s.store.cursors c

/-- The action of the command on the bases and lengths that its payload carries; by rfl `doRingLayout` on the
bytes of these (`run` in the proof of `ringLayout`). -/
def layoutAct (base len : RingId → Nat) (s : State) : Reply × State :=
  if !layoutReady s then refuse 0x18 statusState s
  else if !layoutOk (base .traffic) (len .traffic) (base .send) (len .send) (base .loc) (len .loc) then
    refuse 0x18 statusLayout s
  else
    (replyTo 0x18 statusOk [],
      layOut (base .traffic) (len .traffic) (base .send) (len .send) (base .loc) (len .loc) s)

/-! ## The claim -/

/-- Settles O17: the three branches of the command, each check read as its proposition; the accepted layout's
effect is `layOut_eq`. -/
theorem ringLayout : Obligations.RingLayout := by
  unfold Obligations.RingLayout
  intro s b1 b0 l1 l0 sb1 sb0 sl1 sl0 lb1 lb0 ll1 ll0 taken cmd base len inRing ready layout
  have run : exec cmd s = finish (hostRecord 12 (layoutAct base len) s) := rfl
  have ready_iff : layoutReady (emptyBuffer s) = true ↔ ready := layoutReady_iff s
  have layout_iff := layoutOk_iff base len
  refine ⟨fun notReady => ?_, fun isReady badLayout => ?_, fun isReady isLayout => ?_⟩
  · have refused := mt ready_iff.1 notReady
    exact refuses_of_act (kind := 0x18) run taken (by decide) (by simp [layoutAct, refused, statusState])
  · have passed := ready_iff.2 isReady
    have refused := mt layout_iff.1 badLayout
    exact refuses_of_act (kind := 0x18) run taken (by decide) (by simp [layoutAct, passed, refused, statusLayout])
  · have passed := ready_iff.2 isReady
    have accepted := layout_iff.2 isLayout
    have effect := layOut_eq base len (fun i => (isLayout.1 i).1) (emptyBuffer s)
    have acts : layoutAct base len (emptyBuffer s) =
        (replyTo 0x18 statusOk [], laidOut base len (emptyBuffer s)) := by
      simp [layoutAct, passed, accepted, effect]
    exact ⟨laidOut base len s, answers_of_act run taken (by decide) acts rfl, rfl, laidOut_ring base len s,
      laidOut_cursor base len s, rfl, rfl, rfl, rfl, rfl⟩

end Sys2Proof.Machine
end

section
/-! LINE SETUP (R42, R43): the clamp as the nearer end of a range, the raised clear threshold, the flag bytes
that come back as they were sent, and the claim O13. -/

namespace Sys2Proof.Machine

/-! ## Clamping (R42, R43) -/

theorem clampNat_eq_nearest {lo hi : Nat} (h : lo ≤ hi) (n : Nat) : clampNat lo hi n = nearest lo hi n := by
  unfold clampNat nearest
  split
  · omega
  · split <;> omega

/-- The smallest whole number of milliseconds above `x` microseconds is `x / 1000 + 1`; a threshold of `c`
milliseconds is raised to it just when it is not above `x` already (R43). -/
theorem max_raised_eq (c x : Nat) : max c (x / 1000 + 1) = if x < c * 1000 then c else x / 1000 + 1 := by
  split <;> omega

/-- The values as accepted: each at the nearer end of its range, the clear threshold above the break
threshold. -/
theorem LineSetup.accepted_eq (l : LineSetup) :
    l.accepted =
      let u := nearest 5000 40000 l.unitLength
      let b := nearest 8 255 l.breakUnits
      let c := nearest 200 10000 l.clearMs
      { l with
        unitLength := u, stopFactor := nearest 100 200 l.stopFactor, orientation := nearest 20 80 l.orientation,
        breakUnits := b, clearMs := if b * u < c * 1000 then c else b * u / 1000 + 1,
        confirmMs := nearest 20 1000 l.confirmMs, originateS := nearest 1 120 l.originateS,
        breakMs := nearest 100 2000 l.breakMs, clearSendMs := nearest 500 10000 l.clearSendMs,
        warning := nearest 10 50 l.warning } := by
  simp only [LineSetup.accepted, clampNat_eq_nearest, Nat.reduceLeDiff, max_raised_eq]

/-- Nothing was replaced or raised just when each numeric value is as it was sent; the two flags always are. -/
theorem LineSetup.accepted_eq_self_iff (l : LineSetup) :
    l.accepted = l ↔
      l.accepted.unitLength = l.unitLength ∧ l.accepted.stopFactor = l.stopFactor
      ∧ l.accepted.orientation = l.orientation ∧ l.accepted.breakUnits = l.breakUnits
      ∧ l.accepted.clearMs = l.clearMs ∧ l.accepted.confirmMs = l.confirmMs
      ∧ l.accepted.originateS = l.originateS ∧ l.accepted.breakMs = l.breakMs
      ∧ l.accepted.clearSendMs = l.clearSendMs ∧ l.accepted.warning = l.warning := by
  cases l
  simp only [LineSetup.accepted, LineSetup.mk.injEq, true_and]

/-- The status of a setup command tells whether the values as accepted are those that were sent. -/
theorem setupStatus_bne {α : Type} [DecidableEq α] (accepted given : α) :
    setupStatus (accepted != given) = if accepted = given then statusOk else statusClamped := by
  by_cases h : accepted = given <;> simp [setupStatus, h]

/-! ## The two flag bytes (R191) -/

theorem byte_eq_zero_or_one {b : Byte} (h : b.toNat ≤ 1) : b = 0 ∨ b = 1 := by
  bv_omega

/-- A flag byte that passed the value check comes back in the reply as it was sent. -/
theorem flagByte_beq_one {b : Byte} (h : b.toNat ≤ 1) : flagByte (b == 1) = b := by
  obtain rfl | rfl := byte_eq_zero_or_one h <;> rfl

/-- So does the byte of the unit order. -/
theorem flagByte_order {b : Byte} (h : b.toNat ≤ 1) :
    flagByte ((if b = 1 then UnitOrder.reversed else .normal) == .reversed) = b := by
  obtain rfl | rfl := byte_eq_zero_or_one h <;> rfl

/-! ## The command -/

/-- The values that the bytes of a LINE SETUP carry, before the clamp; `doLineSetup_accepts` ties it to the
model's `doLineSetup`. -/
def LineSetup.sent (u1 u0 f o order unshift bu c1 c0 cf1 cf0 og k1 k0 cs1 cs0 w : Byte) : LineSetup :=
  { unitLength := num2 u1 u0, stopFactor := f.toNat, orientation := o.toNat,
    order := if order = 1 then .reversed else .normal, unshift := unshift == 1, breakUnits := bu.toNat,
    clearMs := num2 c1 c0, confirmMs := num2 cf1 cf0, originateS := og.toNat, breakMs := num2 k1 k0,
    clearSendMs := num2 cs1 cs0, warning := w.toNat }

section Command

variable (u1 u0 f o order unshift bu c1 c0 cf1 cf0 og k1 k0 cs1 cs0 w : Byte) {s : State}

/-- The state check comes first. -/
theorem doLineSetup_of_not_free (h : s.controller.state ≠ .free) :
    doLineSetup [u1, u0, f, o, order, unshift, bu, c1, c0, cf1, cf0, og, k1, k0, cs1, cs0, w] s
      = refuse 0x10 statusState s :=
  if_pos h

/-- In FREE a flag byte above 1 is refused. -/
theorem doLineSetup_of_bad_flag (free : s.controller.state = .free) (h : 1 < order.toNat ∨ 1 < unshift.toNat) :
    doLineSetup [u1, u0, f, o, order, unshift, bu, c1, c0, cf1, cf0, og, k1, k0, cs1, cs0, w] s
      = refuse 0x10 statusRange s :=
  (if_neg (not_not.2 free)).trans (if_pos h)

/-- In FREE with both flags in range the clamped values are put in force and stand in the reply. -/
theorem doLineSetup_accepts (free : s.controller.state = .free) (order_ok : order.toNat ≤ 1)
    (unshift_ok : unshift.toNat ≤ 1) :
    let given := LineSetup.sent u1 u0 f o order unshift bu c1 c0 cf1 cf0 og k1 k0 cs1 cs0 w
    doLineSetup [u1, u0, f, o, order, unshift, bu, c1, c0, cf1, cf0, og, k1, k0, cs1, cs0, w] s
      = (replyTo 0x10 (setupStatus (given.accepted != given)) given.accepted.fields,
          s.setSetup { s.setup with line := given.accepted }) :=
  (if_neg (not_not.2 free)).trans (if_neg (by omega))

/-- The reply shows the flags as they were sent and the other ten values as accepted. -/
theorem LineSetup.fields_accepted_sent (order_ok : order.toNat ≤ 1) (unshift_ok : unshift.toNat ≤ 1) :
    let v := (LineSetup.sent u1 u0 f o order unshift bu c1 c0 cf1 cf0 og k1 k0 cs1 cs0 w).accepted
    v.fields =
      be2 v.unitLength ++ [byte v.stopFactor, byte v.orientation, order, unshift, byte v.breakUnits]
        ++ be2 v.clearMs ++ be2 v.confirmMs ++ [byte v.originateS] ++ be2 v.breakMs ++ be2 v.clearSendMs
        ++ [byte v.warning] := by
  intro v
  have order_back : flagByte (v.order == .reversed) = order := flagByte_order order_ok
  have unshift_back : flagByte v.unshift = unshift := flagByte_beq_one unshift_ok
  rw [LineSetup.fields, order_back, unshift_back]

end Command

/-! ## The claim -/

/-- Settles O13: the three branches of the command; the accepted values are `LineSetup.accepted_eq`, the status
`LineSetup.accepted_eq_self_iff`. -/
theorem lineSetupCommand : Obligations.LineSetupCommand := by
  unfold Obligations.LineSetupCommand
  intro s u1 u0 f o order unshift bu c1 c0 cf1 cf0 og k1 k0 cs1 cs0 w taken cmd u b c v same
  let given := LineSetup.sent u1 u0 f o order unshift bu c1 c0 cf1 cf0 og k1 k0 cs1 cs0 w
  have run : exec cmd s = finish (hostRecord 17 (doLineSetup _) s) := rfl
  have accepted : given.accepted = v := given.accepted_eq
  refine ⟨fun busy => ?_, fun free bad => ?_, fun free order_ok unshift_ok => ?_⟩
  · exact refuses_of_act run taken (by decide) (doLineSetup_of_not_free (s := emptyBuffer s) (h := busy) ..)
  · exact refuses_of_act run taken (by decide)
      (doLineSetup_of_bad_flag (s := emptyBuffer s) (free := free) (h := bad) ..)
  · have acts := doLineSetup_accepts u1 u0 f o order unshift bu c1 c0 cf1 cf0 og k1 k0 cs1 cs0 w
      (s := emptyBuffer s) free order_ok unshift_ok
    have fields := LineSetup.fields_accepted_sent u1 u0 f o order unshift bu c1 c0 cf1 cf0 og k1 k0 cs1 cs0 w
      order_ok unshift_ok
    have unchanged : given.accepted = given ↔ same := accepted ▸ given.accepted_eq_self_iff
    have status : setupStatus (given.accepted != given) = if same then 0 else 1 :=
      (setupStatus_bne _ _).trans (if_congr unchanged rfl rfl)
    rw [← status, ← accepted, ← fields]
    exact answers_of_act run taken (by decide) acts rfl

end Sys2Proof.Machine
end

section
/-! SUPPORT. What the operations of the connection controller make of the state, in the terms of the claims: an
occurrence (R198), the acceptance check (R75), the CLEAR marker (R77), and the entries to FREE and to CLEARING
(R84, R83). -/

namespace Sys2Proof.Machine

/-! ## Steps that take place -/

/-- A step whose conditions hold ends in its state, after the choice of the outgoing link. -/
theorem happen_of_some {o : Option State} {t : State} (h : o = some t) (s : State) :
    happen o s = .next (chooseOutgoing t) := by
  rw [h]
  rfl

/-! ## Occurrences (R198) -/

/-- An occurrence puts down `occurs` and touches nothing else. -/
theorem raise_eq (e : Fin 16) (data : Option Byte) (s : State) :
    raise e data s = { s with events := occurs e data s } := by
  have count : satAdd 255 s.events[e].count 1 =
      if s.events[e].count < 255 then s.events[e].count + 1 else 255 := by
    unfold satAdd
    split <;> omega
  unfold raise occurs EventRecord.occur
  rw [count]
  cases data <;> rfl

/-- CLEARED with its cause (R85). -/
theorem raiseCleared_eq (cause : Byte) (s : State) :
    raiseCleared cause s = { s with events := occurs 2 (some cause) s } :=
  raise_eq evCleared (some cause) s

/-! ## The acceptance check (R75) -/

theorem PrinterHalts.any_eq_false_iff (h : PrinterHalts) :
    h.any = false ↔ h = { paper := false, cover := false, carriage := false, host := false } := by
  cases h
  simp [PrinterHalts.any, and_assoc]

theorem PunchHalts.any_eq_false_iff (h : PunchHalts) :
    h.any = false ↔ h = { tapeOut := false, cover := false, host := false } := by
  cases h
  simp [PunchHalts.any, and_assoc]

/-- The acceptance check as a proposition. -/
theorem canAccept_iff (s : State) : canAccept s = true ↔ Accepts s := by
  simp [canAccept, Accepts, PrinterHalts.any_eq_false_iff, PunchHalts.any_eq_false_iff, and_assoc]

/-! ## The CLEAR marker (R77) -/

theorem closeMarker_of_open {s : State} (h : s.controller.markerOpen = true) :
    closeMarker s =
      { writeTraffic .clear s with controller := { s.controller with markerOpen := false } } := by
  simp [closeMarker, h, State.setController]

theorem closeMarker_of_closed {s : State} (h : s.controller.markerOpen = false) : closeMarker s = s := by
  simp [closeMarker, h]

/-! ## The entry to FREE (R84) -/

/-- From a state that is neither connected nor CLEARING the entry writes no marker. -/
theorem enterFree_of_unconnected {s : State} (unconnected : s.controller.state.connected = false)
    (notClearing : s.controller.state ≠ .clearing) : enterFree s = freed s := by
  unfold enterFree
  rw [if_neg (by simp [unconnected, notClearing])]
  rfl

/-- From a connected state or from CLEARING it closes the marker first. -/
theorem enterFree_of_connected {s : State}
    (h : s.controller.state.connected = true ∨ s.controller.state = .clearing) :
    enterFree s = freed (closeMarker s) := by
  unfold enterFree
  rw [if_pos (by simp [h])]
  rfl

/-! ## The entry to CLEARING (R83) -/

/-- What the entry leaves of the sequencer, by whether a character is in flight. -/
theorem endedSequencer_eq (s : State) :
    endedSequencer s =
      if s.transmitter.state.isSending then s.transmitter.sequencer.withoutRequest else .empty := by
  unfold endedSequencer
  cases s.transmitter.state with
  | sending start code keying => cases s.transmitter.sequencer <;> rfl
  | _ => rfl

theorem endRequests_eq (s : State) :
    endRequests s =
      s.setTransmitter { s.transmitter with sequencer := endedSequencer s, breakPending := false } := by
  rw [endedSequencer_eq]
  unfold endRequests dropRequests
  split <;> rfl

/-- The entry to CLEARING in the terms of the claims: the transmitter's state says whether the clear spacing
begins at once. -/
theorem enterClearing_eq (s : State) : enterClearing s = cleared s := by
  unfold enterClearing cleared
  rw [endRequests_eq]
  cases h : s.transmitter.state <;>
  · simp only [setLine, stopCounter, State.setController, State.setTransmitter, State.setReceiver, h]
    rfl

end Sys2Proof.Machine
end

section
/-! ORIGINATE and CLEAR (R70, R82, R194): each command by the line state, and the claim O23. -/

namespace Sys2Proof.Machine

/-! ## The commands by the line state -/

/-- The machine after an ORIGINATE that is taken; `doOriginate_of_free` ties it to the model. -/
def originating (s : State) : State :=
  { s with
    controller :=
      { s.controller with
        state := .originating
        originate := true
        originateTimer := .running (s.now + s.setup.line.originateS * 1000000) } }

/-- A call not yet confirmed is forgotten where one stands; `doClear_enters_clearing` ties it to the model. -/
def callForgotten (s : State) : State :=
  let pending := s.controller.state = .callPending
  { s with
    controller :=
      { s.controller with
        originate := if pending then false else s.controller.originate
        originateTimer := if pending then .stopped else s.controller.originateTimer
        confirmTimer := if pending then none else s.controller.confirmTimer } }

theorem callForgotten_of_pending {s : State} (h : s.controller.state = .callPending) :
    callForgotten s = stopCallTimers s := by
  simp [callForgotten, stopCallTimers, h, State.setController]

theorem callForgotten_of_not_pending {s : State} (h : s.controller.state ≠ .callPending) :
    callForgotten s = s := by
  simp [callForgotten, h]

theorem doOriginate_of_not_free {s : State} (h : s.controller.state ≠ .free) :
    doOriginate s = refuse 0x31 statusState s :=
  if_neg h

theorem doOriginate_of_free {s : State} (h : s.controller.state = .free) :
    doOriginate s = lineReply 0 (originating s) :=
  if_pos h

theorem doClear_of_idle {s : State} (h : s.controller.state = .free ∨ s.controller.state = .clearing) :
    doClear s = refuse 0x31 statusState s := by
  unfold doClear
  obtain h | h := h <;>
  · rw [h]
    rfl

/-- In ORIGINATING no marker is written: the attempt ends with CLEARED, cause ABANDONED. -/
theorem doClear_of_originating {s : State} (h : s.controller.state = .originating) :
    doClear s = lineReply 0 { freed s with events := occurs 2 (some 2) s } := by
  have free : enterFree s = freed s := enterFree_of_unconnected (by rw [h]; rfl) (by simp [h])
  unfold doClear
  rw [h]
  simp only [free, raiseCleared_eq]
  rfl

/-- From the other line states CLEARING is entered. -/
theorem doClear_enters_clearing {s : State} (notFree : s.controller.state ≠ .free)
    (notClearing : s.controller.state ≠ .clearing) (notOriginating : s.controller.state ≠ .originating) :
    doClear s = lineReply 0 (cleared (callForgotten s)) := by
  rw [← enterClearing_eq]
  unfold doClear
  cases line : s.controller.state with
  | free => contradiction
  | clearing => contradiction
  | originating => contradiction
  | callPending => rw [callForgotten_of_pending line]
  | unanswered | waking | established | refusing => rw [callForgotten_of_not_pending (by simp [line])]

/-! ## The claim -/

/-- Settles O23: each command by the line state; its effect is `originating`, the entry to FREE, or the entry to
CLEARING with a call not yet confirmed forgotten. -/
theorem originateAndClear : Obligations.OriginateAndClear := by
  unfold Obligations.OriginateAndClear
  intro s taken
  have runOriginate : exec .originate s = finish (hostRecord 1 doOriginate s) := rfl
  have runClear : exec .clear s = finish (hostRecord 1 doClear s) := rfl
  refine ⟨fun busy => ?_, fun free => ?_, fun idle => ?_, fun attempt => ?_,
    fun notFree notClearing notOriginating => ?_⟩
  · exact refuses_of_act runOriginate taken (by decide) (doOriginate_of_not_free (s := emptyBuffer s) busy)
  · exact answers_of_act (t := originating s) runOriginate taken (by decide)
      (doOriginate_of_free (s := emptyBuffer s) free) rfl
  · exact refuses_of_act runClear taken (by decide) (doClear_of_idle (s := emptyBuffer s) idle)
  · exact answers_of_act (t := { freed s with events := occurs 2 (some 2) s }) runClear taken (by decide)
      (doClear_of_originating (s := emptyBuffer s) attempt) rfl
  · exact answers_of_act (t := cleared (callForgotten s)) runClear taken (by decide)
      (doClear_enters_clearing (s := emptyBuffer s) notFree notClearing notOriginating) rfl

end Sys2Proof.Machine
end

section
/-! The timers of a call (R71, R72, R74, R83): its confirmation, the originate timer, the clear timer, and the
claim O43. -/

namespace Sys2Proof.Machine

/-! ## The confirmation of a call (R74) -/

/-- A confirmed call from the far station: the timer stopped and CALL raised; `confirmCall_of_far` ties it to
the model. -/
def farCalled (s : State) : State :=
  { s with
    controller := { s.controller with confirmTimer := none }
    events := occurs 0 none s }

theorem exec_callConfirmed {t : Nat} {s : State} (pending : s.controller.state = .callPending)
    (timer : s.controller.confirmTimer = some t) :
    exec .callConfirmed s = .next (chooseOutgoing (confirmCall (s.upTo t))) :=
  happen_of_some (by simp [doCallConfirmed, pending, timer]) s

theorem confirmCall_of_originated {s : State} (h : s.controller.originate = true) :
    confirmCall s =
      enterCall .originated true
        { s with controller :=
            { s.controller with confirmTimer := none, originate := false, originateTimer := .stopped } } :=
  if_pos h

theorem confirmCall_of_far {s : State} (h : s.controller.originate = false) :
    confirmCall s =
      if s.modes.answering then enterCall .answered (canAccept (farCalled s)) (farCalled s)
      else setLine .unanswered (farCalled s) := by
  have called : raise evCall none (s.setController { s.controller with confirmTimer := none }) = farCalled s :=
    raise_eq ..
  rw [← called]
  exact if_neg (by simp [h])

/-- The confirmation leaves the acceptance check as it was before the step. -/
theorem canAccept_farCalled_upTo (t : Nat) (s : State) : canAccept (farCalled (s.upTo t)) = canAccept s := rfl

/-! ## The originate timer and the clear timer (R71, R72, R83) -/

theorem exec_originateTimeout_of_originating {t : Nat} {s : State}
    (timer : s.controller.originateTimer = .running t) (line : s.controller.state = .originating) :
    exec .originateTimeout s
      = .next (chooseOutgoing { freed (s.upTo t) with events := occurs 2 (some 2) s }) := by
  have free : enterFree (s.upTo t) = freed (s.upTo t) :=
    enterFree_of_unconnected (by simp [line, LineState.connected]) (by simp [line])
  have ends : doOriginateTimeout s = some (raiseCleared causeAbandoned (freed (s.upTo t))) := by
    simp [doOriginateTimeout, timer, line, free]
  rw [raiseCleared_eq] at ends
  exact happen_of_some ends s

theorem exec_originateTimeout_of_pending {t : Nat} {s : State}
    (timer : s.controller.originateTimer = .running t) (line : s.controller.state = .callPending) :
    exec .originateTimeout s
      = .next (chooseOutgoing
          { s.upTo t with controller := { s.controller with originateTimer := .expired } }) :=
  happen_of_some (by simp [doOriginateTimeout, timer, line, State.setController]) s

/-- The transmitter back in IDLE at the instant of the clear timer; `exec_clearTimerExpiry` ties it to the
model. -/
def spacingEnded (t : Nat) (s : State) : State :=
  { s.upTo t with transmitter := { s.transmitter with state := .idle } }

/-- The clear timer ends the spacing, and the line is FREE with the marker closed. -/
theorem exec_clearTimerExpiry {t : Nat} {s : State} (timer : s.controller.clearTimer = some t)
    (line : s.controller.state = .clearing) :
    exec .clearTimerExpiry s
      = .next (chooseOutgoing (raiseCleared causeOwn (freed (closeMarker (spacingEnded t s))))) := by
  have free : enterFree (spacingEnded t s) = freed (closeMarker (spacingEnded t s)) :=
    enterFree_of_connected (.inr line)
  rw [← free]
  refine happen_of_some ?_ s
  unfold doClearTimerExpiry
  rw [timer]
  rfl

/-! ## The claim -/

/-- Settles O43: the confirmation by the originate flag and the answering flag, the acceptance check read as its
proposition; then the expiry of each timer by the line state. -/
theorem callTimers : Obligations.CallTimers := by
  unfold Obligations.CallTimers
  constructor
  · intro t s pending timer u ours theirs
    rw [exec_callConfirmed pending timer]
    refine ⟨fun own => ?_, fun far answering => ?_, fun far silent => ?_⟩
    · rw [confirmCall_of_originated (s := s.upTo t) own]
      rfl
    · have called : confirmCall (s.upTo t) = enterCall .answered (canAccept s) theirs := by
        rw [confirmCall_of_far (s := s.upTo t) far, canAccept_farCalled_upTo]
        exact if_pos answering
      rw [called, ← canAccept_iff]
      refine ⟨fun accepted => ?_, fun rejected => ?_⟩
      · rw [accepted]
      · rw [Bool.eq_false_of_not_eq_true rejected]
    · have called : confirmCall (s.upTo t) = setLine .unanswered theirs := by
        rw [confirmCall_of_far (s := s.upTo t) far]
        exact if_neg (by simp [silent])
      rw [called]
      rfl
  · intro t s u
    refine ⟨fun timer => ?_, fun timer line => ?_⟩
    · exact ⟨exec_originateTimeout_of_originating timer, exec_originateTimeout_of_pending timer⟩
    · rw [exec_clearTimerExpiry timer line]
      refine ⟨fun markerOpen => ?_, fun markerClosed => ?_⟩
      · rw [closeMarker_of_open (s := spacingEnded t s) markerOpen, raiseCleared_eq]
        rfl
      · rw [closeMarker_of_closed (s := spacingEnded t s) markerClosed, raiseCleared_eq]
        rfl

end Sys2Proof.Machine
end

section
/-! STATISTICS (R203): what the command does to the machine and to its reply, and the claim O35. -/

namespace Sys2Proof.Machine

/-- The figures of the receiver, the transmitter, the printer and the punch are set to 0, and no other field
moves. -/
theorem clearStatistics_eq (s : State) :
    clearStatistics s =
      { s with
        receiver := { s.receiver with stats := .zero }
        transmitter := { s.transmitter with sent := 0, dropped := 0 }
        printer := { s.printer with strikes := 0 }
        punch := { s.punch with punched := 0, erases := 0 } } :=
  rfl

/-- The link empties its assembly buffer before the command acts; no figure is read from it or moved by it. -/
theorem doStatistics_emptyBuffer (s : State) :
    doStatistics (emptyBuffer s) =
      (.record 0xD1 (statusOk :: statisticsFields s), (clearStatistics s).setLink (emptyBuffer s).link) :=
  rfl

/-- Settles O35: the reply holds the figures at the taking, and what it leaves is `clearStatistics_eq`. -/
theorem statisticsReply : Obligations.StatisticsReply := by
  unfold Obligations.StatisticsReply
  intro s taken
  have run : exec .statistics s = finish (hostRecord 0 doStatistics s) := rfl
  have answers : Answers .statistics s 0xD1 (statusOk :: statisticsFields s) (clearStatistics s) :=
    answers_of_act run taken (by decide) (doStatistics_emptyBuffer s) rfl
  rw [clearStatistics_eq] at answers
  exact answers

end Sys2Proof.Machine
end

section
/-! SUPPORT. What a step can be (00 Scope; R190): the rows of the table that are whole records, each the dispatch of
its kind and payload; the rows that are the part's own steps; the few others. With it the claims O1, O2 and O9, and
the induction that every invariant of a step goes through. -/

namespace Sys2Proof.Machine

/-! ## The rows that are records (R190) -/

/-- The record that a row of the table stands for, as its kind and payload; `exec_of_recordOf` ties it to the
model. -/
def recordOf : Instr → Option (Byte × List Byte)
  | .lineSetup p => some (0x10, p)
  | .printerSetup p => some (0x11, p)
  | .keyboardSetup p => some (0x12, p)
  | .punchSetup p => some (0x13, p)
  | .motorAndBellSetup p => some (0x14, p)
  | .ringLayout p => some (0x18, p)
  | .loadCodes p => some (0x20, p)
  | .loadKeys p => some (0x21, p)
  | .loadAnswerBack p => some (0x22, p)
  | .loadRefusalText p => some (0x23, p)
  | .setMode p => some (0x30, p)
  | .answer => some (0x31, [0])
  | .originate => some (0x31, [1])
  | .clear => some (0x31, [2])
  | .breakSend => some (0x31, [3])
  | .hereIs => some (0x31, [4])
  | .haltSend => some (0x31, [5])
  | .resumeSend => some (0x31, [6])
  | .cancelSend => some (0x31, [7])
  | .printerActionStop => some (0x32, [0])
  | .printerActionResume => some (0x32, [1])
  | .punchActionStop n => some (0x33, [0, n])
  | .punchActionResume n => some (0x33, [1, n])
  | .punchActionFeed n => some (0x33, [2, n])
  | .motorRestart => some (0x34, [])
  | .writeText p => some (0x40, p)
  | .writeCodes p => some (0x41, p)
  | .readEntriesTake c h n => some (0x48, [c, 0, h.extractLsb' 8 8, h.extractLsb' 0 8, n])
  | .readEntriesPeek c h n => some (0x48, [c, 1, h.extractLsb' 8 8, h.extractLsb' 0 8, n])
  | .moveReader c h => some (0x49, [c, h.extractLsb' 8 8, h.extractLsb' 0 8])
  | .attachHostReader c => some (0x4A, [c, 1])
  | .detachHostReader c => some (0x4A, [c, 0])
  | .status => some (0x50, [])
  | .statistics => some (0x51, [])
  | .eventSetup p => some (0x60, p)
  | .eventClear p => some (0x61, p)
  | .restart => some (0x7E, [])
  | _ => none

/-- The two-byte field of a record is the two bytes put back together. -/
theorem half_bytes (h : Half) : h.extractLsb' 8 8 ++ h.extractLsb' 0 8 = h := by
  rw [BitVec.extractLsb'_append_extractLsb'_eq_extractLsb' (by decide)]
  simp

/-- A row that is a record does what the dispatch of its record does (R190; log 8). -/
theorem exec_of_recordOf {i : Instr} {k : Byte} {p : List Byte} (h : recordOf i = some (k, p)) (s : State) :
    exec i s = finish (hostRecord p.length (dispatch k p) s) := by
  cases i <;> cases h
  case readEntriesTake c o n =>
    conv_lhs => rw [← half_bytes o]
    rfl
  case readEntriesPeek c o n =>
    conv_lhs => rw [← half_bytes o]
    rfl
  case moveReader c d =>
    conv_lhs => rw [← half_bytes d]
    rfl
  all_goals rfl

/-- A kind that is no command is dispatched as unknown (R188, R190). -/
theorem dispatch_of_unknown {k : Byte} (h : k ∉ commandKinds) (p : List Byte) (s : State) :
    dispatch k p s = doUnknown k s := by
  unfold dispatch
  split
  case h_26 => rfl
  all_goals
    simp only [commandKinds, List.mem_cons, List.not_mem_nil, ← BitVec.toNat_inj] at h
    simp [*] at h

theorem exec_unknownKind {k : Byte} (h : k ∉ commandKinds) (p : List Byte) (s : State) :
    exec (.unknownKind k p) s = finish (hostRecord p.length (dispatch k p) s) := by
  rw [funext (dispatch_of_unknown h p)]
  exact if_neg (by simpa using h)

/-! ## The rows that are the part's own steps, and transitions -/

/-- The meaning of a row that is a step of the part itself or a transition of LINE_IN not yet seen: the state it
leads to, or none where its conditions do not hold (log 3); `exec_of_ownDo` ties it to the model. -/
def ownDo : Instr → Option (State → Option State)
  | .interByteGapExpiry => some doGapExpiry
  | .recordOverrun => some doOverrun
  | .outgoingRecordEnd => some doRecordEnd
  | .unitSample => some doUnitSample
  | .falseStart => some doFalseStart
  | .characterCompletion => some doCharacterCompletion
  | .claimWithdrawn => some doClaimWithdrawn
  | .breakThresholdReached => some doBreakThreshold
  | .clearThresholdReached => some doClearThreshold
  | .callConfirmed => some doCallConfirmed
  | .originateTimeout => some doOriginateTimeout
  | .clearTimerExpiry => some doClearTimerExpiry
  | .characterBegin => some doCharacterBegin
  | .characterEnd => some doCharacterEnd
  | .breakBegin => some doBreakBegin
  | .breakEnd => some doBreakEnd
  | .repeatTimerExpiry => some doRepeat
  | .printTake => some doPrintTake
  | .wheelTravelBegin => some doWheelTravel
  | .printActionBegin => some doPrintAction
  | .implicitNewlineBegin => some doImplicitNewline
  | .implicitReturnBegin => some doImplicitReturn
  | .wheelStepEnd => some doWheelStep
  | .strikeComplete => some doStrikeComplete
  | .advanceComplete => some doAdvanceComplete
  | .returnComplete => some doReturnComplete
  | .lineFeedComplete => some doLineFeedComplete
  | .punchTake => some doPunchTake
  | .blankCycleBegin => some doBlankCycle
  | .punchActionBegin => some doPunchAction
  | .punchStepComplete => some doPunchStep
  | .motorRunupStart => some doRunupStart
  | .runupTimeout => some doRunupTimeout
  | .idleCountdownExpiry => some doIdleExpiry
  | .sensePinChange k level time => some (doSensePin k level time)
  | .senseDebouncedChange k => some (doDebounced k)
  | .ringBegin => some doRingBegin
  | .ringEnd => some doRingEnd
  | .gapEnd => some doGapEnd
  | _ => none

theorem exec_of_ownDo {i : Instr} {f : State → Option State} (h : ownDo i = some f) (s : State) :
    exec i s = happen (f s) s := by
  cases i <;> cases h <;> rfl

/-- What a row of the table can be. -/
inductive Row : Instr → Prop where
  | record {i : Instr} {k : Byte} {p : List Byte} (h : recordOf i = some (k, p)) : Row i
  | own {i : Instr} {f : State → Option State} (h : ownDo i = some f) : Row i
  | power (rate : Bool) : Row (.powerOnReset rate)
  | unknown (k : Byte) (p : List Byte) : Row (.unknownKind k p)
  | fault (time : Nat) : Row (.hostFramingFault time)
  | byte (b : Byte) (time : Nat) : Row (.hostByteReceived b time)
  | falls (time : Nat) : Row (.lineInMarkToSpace time)
  | rises (time : Nat) : Row (.lineInSpaceToMark time)
  | key (k : Fin 64) (closed : Bool) : Row (.keyReading k closed)

theorem row (i : Instr) : Row i := by
  cases i
  case powerOnReset => exact .power _
  case unknownKind => exact .unknown _ _
  case hostFramingFault => exact .fault _
  case hostByteReceived => exact .byte _ _
  case lineInMarkToSpace => exact .falls _
  case lineInSpaceToMark => exact .rises _
  case keyReading => exact .key _ _
  all_goals first | exact .record rfl | exact .own rfl

/-! ## No row stops the part -/

/-- A step that takes place or not answers a next state. -/
theorem happen_answers (o : Option State) (s : State) : ∃ t, happen o s = .next t := by
  cases o <;> exact ⟨_, rfl⟩

theorem takeTransition_answers (o : Option State) (s : State) : ∃ t, takeTransition o s = .next t := by
  unfold takeTransition
  split
  · exact happen_answers o s
  · exact ⟨_, rfl⟩

theorem exec_answers (i : Instr) (s : State) : ∃ t, exec i s = .next t := by
  cases row i with
  | record h => exact ⟨_, exec_of_recordOf h s⟩
  | own h => exact exec_of_ownDo h s ▸ happen_answers _ s
  | power => exact ⟨_, rfl⟩
  | unknown k p =>
    by_cases known : k ∈ commandKinds
    · exact ⟨s, if_pos (by simpa using known)⟩
    · exact ⟨_, exec_unknownKind known p s⟩
  | fault => exact ⟨_, rfl⟩
  | byte => exact ⟨_, rfl⟩
  | falls => exact takeTransition_answers _ s
  | rises => exact takeTransition_answers _ s
  | key => exact ⟨_, rfl⟩

/-! ## The claims on the step and on the dispatch -/

/-- Settles O1. -/
theorem stepRunsFrontCommand : Obligations.StepRunsFrontCommand :=
  fun _ _ _ => rfl

/-- Settles O2: the two cases of an empty queue, and `exec_answers` for the command that either kind of step
runs. -/
theorem everyStepAnswersNext : Obligations.EveryStepAnswersNext := by
  unfold Obligations.EveryStepAnswersNext
  intro s
  refine ⟨fun empty => ⟨fun i s' own => ?_, fun none => ?_⟩, ?_⟩
  · simp [step, empty, idleStep, own]
  · simp [step, empty, idleStep, none, State.tick]
  · unfold step
    cases s.pending with
    | cons c rest => exact exec_answers c _
    | nil =>
      unfold idleStep
      cases ownStep s with
      | none => exact ⟨_, rfl⟩
      | some x => exact exec_answers x.1 x.2

/-- Settles O9: each row is the dispatch of its record, by definition but for a kind that is no command. -/
theorem dispatchIsTheRow : Obligations.DispatchIsTheRow := by
  unfold Obligations.DispatchIsTheRow
  intro s p run
  refine ⟨rfl, rfl, rfl, rfl, rfl, rfl, rfl, rfl, rfl, rfl, rfl, rfl, rfl, rfl, rfl, rfl, rfl, rfl, rfl, rfl, rfl,
    fun _ => ⟨rfl, rfl, rfl⟩, rfl, rfl, rfl, fun _ _ _ _ => ⟨rfl, rfl, rfl⟩, fun _ => ⟨rfl, rfl⟩, rfl, rfl, rfl, rfl,
    rfl, fun k unknown => (exec_unknownKind unknown p s).symm⟩

/-! ## The induction behind every invariant -/

/-- What a meaning keeps, where each of the things that a row can be keeps it. -/
theorem exec_keeps (P : State → Prop)
    (choose : ∀ s, P s → P (chooseOutgoing s))
    (clock : ∀ s t, P s → P (s.upTo t))
    (seen : ∀ s n, P s → P (s.setReceiver { s.receiver with ahead := n }))
    (power : ∀ rate s, P s → P (powerOn rate s))
    (fault : ∀ s, P s → P (framingFault s))
    (byte : ∀ b s, P s → P (takeByte b s))
    (record : ∀ k p s, P s → P (hostRecord p.length (dispatch k p) s))
    (falls : ∀ time s t, P s → doMarkToSpace time s = some t → P t)
    (rises : ∀ time s t, P s → doSpaceToMark time s = some t → P t)
    (key : ∀ k closed s, P s → P (readKeyNow k closed s))
    (own : ∀ i f s t, ownDo i = some f → P s → f s = some t → P t)
    {i : Instr} {s t : State} (hs : P s) (h : exec i s = .next t) : P t := by
  have happens (o : Option State) (kept : ∀ u, o = some u → P u) (h : happen o s = .next t) : P t := by
    cases o with
    | none => cases h; exact hs
    | some u => cases h; exact choose u (kept u rfl)
  have transition (o : Option State) (kept : ∀ u, o = some u → P u) (h : takeTransition o s = .next t) : P t := by
    unfold takeTransition at h
    split at h
    · exact happens o kept h
    · cases h; exact seen s _ hs
  have before (time : Nat) : P (beforeByte time s) := by
    unfold beforeByte
    split
    · split
      · next u expired => exact choose u (own .interByteGapExpiry _ s u rfl hs expired)
      · exact hs
    · exact hs
  cases row i with
  | record r =>
    rw [exec_of_recordOf r] at h
    cases h
    exact choose _ (record _ _ s hs)
  | own r =>
    rw [exec_of_ownDo r] at h
    exact happens _ (fun u => own _ _ s u r hs) h
  | power rate => cases h; exact choose _ (power rate s hs)
  | unknown k p =>
    by_cases known : k ∈ commandKinds
    · rw [show exec (.unknownKind k p) s = .next s from if_pos (by simpa using known)] at h
      cases h; exact hs
    · rw [exec_unknownKind known] at h
      cases h; exact choose _ (record k p s hs)
  | fault time => cases h; exact choose _ (fault _ (clock _ _ (before time)))
  | byte b time => cases h; exact choose _ (byte b _ (clock _ _ (before time)))
  | falls time => exact transition _ (fun u => falls time s u hs) h
  | rises time => exact transition _ (fun u => rises time s u hs) h
  | key k closed => cases h; exact choose _ (key k closed _ (clock _ _ hs))

/-- What every step keeps, where every meaning keeps it, and the queue, the count of ties and a microsecond that
passes do not disturb it. -/
theorem step_keeps (P : State → Prop) (queue : ∀ s q, P s → P (s.setPending q))
    (tie : ∀ s n, P s → P (s.setTicket n)) (tick : ∀ s, P s → P s.tick)
    (execs : ∀ i s t, P s → exec i s = .next t → P t) {s t : State} (hs : P s) (h : step s = .next t) : P t := by
  unfold step at h
  split at h
  · exact execs _ _ t (queue s _ hs) h
  · unfold idleStep at h
    split at h
    · next i s' own =>
      have taken : s' = s ∨ ∃ n, s' = s.setTicket n := by
        unfold ownStep at own
        split at own
        · cases own; exact .inl rfl
        · split at own
          · cases own
          · cases own; exact .inl rfl
          · obtain ⟨_, _, e⟩ := Option.map_eq_some_iff.1 own
            cases e; exact .inr ⟨_, rfl⟩
      obtain rfl | ⟨n, rfl⟩ := taken
      · exact execs i _ t hs h
      · exact execs i _ t (tie s n hs) h
    · cases h; exact tick s hs

end Sys2Proof.Machine
end

section
/-! SUPPORT. What a step of the part itself, a transition of LINE_IN and a key reading touch: the state after it is the
state before it but for the fields named. -/

namespace Sys2Proof.Machine

/-- A state is its fields. -/
theorem State.ext_fields {s t : State} (now : s.now = t.now) (ticket : s.ticket = t.ticket)
    (lineIn : s.lineIn = t.lineIn) (store : s.store = t.store) (tables : s.tables = t.tables)
    (setup : s.setup = t.setup) (modes : s.modes = t.modes) (receiver : s.receiver = t.receiver)
    (transmitter : s.transmitter = t.transmitter) (controller : s.controller = t.controller)
    (keyboard : s.keyboard = t.keyboard) (printer : s.printer = t.printer) (punch : s.punch = t.punch)
    (motor : s.motor = t.motor) (sense : s.sense = t.sense) (bell : s.bell = t.bell) (link : s.link = t.link)
    (events : s.events = t.events) (pending : s.pending = t.pending) : s = t := by
  cases s
  cases t
  simp_all

theorem doGapExpiry_frame {s t : State} (h : doGapExpiry s = some t) :
    t = { s with now := t.now, link := t.link, events := t.events } := by
  simp only [doGapExpiry] at h
  repeat' split at h
  all_goals
    cases h
    try apply State.ext_fields <;> simp

theorem doOverrun_frame {s t : State} (h : doOverrun s = some t) :
    t = { s with link := t.link, events := t.events } := by
  simp only [doOverrun] at h
  repeat' split at h
  all_goals
    cases h
    try apply State.ext_fields <;> simp

theorem doRecordEnd_frame {s t : State} (h : doRecordEnd s = some t) :
    t = { s with now := t.now, link := t.link } := by
  simp only [doRecordEnd] at h
  repeat' split at h
  all_goals
    cases h
    try apply State.ext_fields <;> simp

theorem doClaimWithdrawn_frame {s t : State} (h : doClaimWithdrawn s = some t) :
    t = { s with now := t.now, transmitter := t.transmitter, events := t.events } := by
  simp only [doClaimWithdrawn, echoFailed] at h
  repeat' split at h
  all_goals
    cases h
    try apply State.ext_fields <;> simp

theorem doBreakThreshold_frame {s t : State} (h : doBreakThreshold s = some t) :
    t = { s with now := t.now, receiver := t.receiver, transmitter := t.transmitter, events := t.events } := by
  simp only [doBreakThreshold] at h
  repeat' split at h
  all_goals
    cases h
    try apply State.ext_fields <;> simp

theorem doClearThreshold_frame {s t : State} (h : doClearThreshold s = some t) :
    t = { s with
        now := t.now, store := t.store, receiver := t.receiver, transmitter := t.transmitter,
        controller := t.controller, events := t.events } := by
  simp only [doClearThreshold, clearReport] at h
  repeat' split at h
  all_goals
    cases h
    try apply State.ext_fields <;> simp

theorem doCallConfirmed_frame {s t : State} (h : doCallConfirmed s = some t) :
    t = { s with
        now := t.now, store := t.store, modes := t.modes, receiver := t.receiver, transmitter := t.transmitter,
        controller := t.controller, keyboard := t.keyboard, printer := t.printer, events := t.events } := by
  simp only [doCallConfirmed, confirmCall] at h
  repeat' split at h
  all_goals
    cases h
    try apply State.ext_fields <;> simp

theorem doOriginateTimeout_frame {s t : State} (h : doOriginateTimeout s = some t) :
    t = { s with
        now := t.now, store := t.store, receiver := t.receiver, transmitter := t.transmitter,
        controller := t.controller, events := t.events } := by
  simp only [doOriginateTimeout] at h
  repeat' split at h
  all_goals
    cases h
    try apply State.ext_fields <;> simp

theorem doClearTimerExpiry_frame {s t : State} (h : doClearTimerExpiry s = some t) :
    t = { s with
        now := t.now, store := t.store, receiver := t.receiver, transmitter := t.transmitter,
        controller := t.controller, events := t.events } := by
  simp only [doClearTimerExpiry] at h
  repeat' split at h
  all_goals
    cases h
    try apply State.ext_fields <;> simp

theorem doCharacterEnd_frame {s t : State} (h : doCharacterEnd s = some t) :
    t = { s with
        now := t.now, receiver := t.receiver, transmitter := t.transmitter, controller := t.controller,
        motor := t.motor, events := t.events } := by
  simp only [doCharacterEnd, sequenceDone, setSequencer] at h
  repeat' split at h
  all_goals
    cases h
    try apply State.ext_fields <;> simp

theorem doBreakBegin_frame {s t : State} (h : doBreakBegin s = some t) :
    t = { s with receiver := t.receiver, transmitter := t.transmitter } := by
  simp only [doBreakBegin] at h
  repeat' split at h
  all_goals
    cases h
    try apply State.ext_fields <;> simp

theorem doBreakEnd_frame {s t : State} (h : doBreakEnd s = some t) :
    t = { s with now := t.now, receiver := t.receiver, transmitter := t.transmitter } := by
  simp only [doBreakEnd, beginRun] at h
  repeat' split at h
  all_goals
    cases h
    try apply State.ext_fields <;> simp

theorem doWheelTravel_frame {s t : State} (h : doWheelTravel s = some t) :
    t = { s with printer := t.printer, motor := t.motor } := by
  simp only [doWheelTravel] at h
  repeat' split at h
  all_goals
    cases h
    try apply State.ext_fields <;> simp

theorem doImplicitNewline_frame {s t : State} (h : doImplicitNewline s = some t) :
    t = { s with printer := t.printer, motor := t.motor } := by
  simp only [doImplicitNewline, beginFeeds, beginReturn] at h
  repeat' split at h
  all_goals
    cases h
    try apply State.ext_fields <;> simp

theorem doImplicitReturn_frame {s t : State} (h : doImplicitReturn s = some t) :
    t = { s with printer := t.printer, motor := t.motor } := by
  simp only [doImplicitReturn, beginReturn] at h
  repeat' split at h
  all_goals
    cases h
    try apply State.ext_fields <;> simp

theorem doWheelStep_frame {s t : State} (h : doWheelStep s = some t) :
    t = { s with now := t.now, printer := t.printer } := by
  simp only [doWheelStep] at h
  repeat' split at h
  all_goals
    cases h
    try apply State.ext_fields <;> simp

theorem doStrikeComplete_frame {s t : State} (h : doStrikeComplete s = some t) :
    t = { s with now := t.now, printer := t.printer, motor := t.motor } := by
  simp only [doStrikeComplete, beginAdvance] at h
  repeat' split at h
  all_goals
    cases h
    try apply State.ext_fields <;> simp

theorem doAdvanceComplete_frame {s t : State} (h : doAdvanceComplete s = some t) :
    t = { s with now := t.now, printer := t.printer, bell := t.bell } := by
  simp only [doAdvanceComplete] at h
  repeat' split at h
  all_goals
    cases h
    try apply State.ext_fields <;> simp

theorem carriageHomeCheck_frame (s : State) :
    carriageHomeCheck s =
      { s with
        store := (carriageHomeCheck s).store
        printer := (carriageHomeCheck s).printer
        events := (carriageHomeCheck s).events } := by
  unfold carriageHomeCheck
  split
  · rfl
  · apply State.ext_fields <;> simp

theorem putWaitingWidth_frame (s : State) :
    putWaitingWidth s =
      { s with setup := (putWaitingWidth s).setup, printer := (putWaitingWidth s).printer } := by
  unfold putWaitingWidth
  split <;> rfl

theorem doReturnComplete_frame {s t : State} (h : doReturnComplete s = some t) :
    t = { s with now := t.now, store := t.store, setup := t.setup, printer := t.printer, events := t.events } := by
  simp only [doReturnComplete] at h
  split at h <;> cases h
  rw [carriageHomeCheck_frame, putWaitingWidth_frame]
  rfl

theorem doLineFeedComplete_frame {s t : State} (h : doLineFeedComplete s = some t) :
    t = { s with now := t.now, printer := t.printer, motor := t.motor } := by
  simp only [doLineFeedComplete, beginFeeds] at h
  repeat' split at h
  all_goals
    cases h
    try apply State.ext_fields <;> simp

theorem doBlankCycle_frame {s t : State} (h : doBlankCycle s = some t) :
    t = { s with punch := t.punch, motor := t.motor } := by
  simp only [doBlankCycle, beginWork] at h
  repeat' split at h
  all_goals
    cases h
    try apply State.ext_fields <;> simp

theorem doPunchStep_frame {s t : State} (h : doPunchStep s = some t) :
    t = { s with now := t.now, punch := t.punch, motor := t.motor } := by
  simp only [doPunchStep, beginWork] at h
  repeat' split at h
  all_goals
    cases h
    try apply State.ext_fields <;> simp

theorem doRunupStart_frame {s t : State} (h : doRunupStart s = some t) :
    t = { s with
        receiver := t.receiver, transmitter := t.transmitter, controller := t.controller, punch := t.punch,
        motor := t.motor, events := t.events } := by
  simp only [doRunupStart] at h
  repeat' split at h
  all_goals
    cases h
    try apply State.ext_fields <;> simp

theorem doRunupTimeout_frame {s t : State} (h : doRunupTimeout s = some t) :
    t = { s with
        now := t.now, receiver := t.receiver, transmitter := t.transmitter, controller := t.controller,
        printer := t.printer, motor := t.motor, events := t.events } := by
  simp only [doRunupTimeout] at h
  repeat' split at h
  all_goals
    cases h
    try apply State.ext_fields <;> simp

theorem doIdleExpiry_frame {s t : State} (h : doIdleExpiry s = some t) :
    t = { s with now := t.now, motor := t.motor } := by
  simp only [doIdleExpiry] at h
  repeat' split at h
  all_goals
    cases h
    try apply State.ext_fields <;> simp

theorem doSensePin_frame {k : Fin 6} {level : Bool} {time : Nat} {s t : State} (h : doSensePin k level time s = some t) :
    t = { s with now := t.now, sense := t.sense } := by
  simp only [doSensePin, setInput] at h
  repeat' split at h
  all_goals
    cases h
    try apply State.ext_fields <;> simp

theorem doRingBegin_frame {s t : State} (h : doRingBegin s = some t) :
    t = { s with bell := t.bell } := by
  simp only [doRingBegin, startRing] at h
  repeat' split at h
  all_goals
    cases h
    try apply State.ext_fields <;> simp

theorem doRingEnd_frame {s t : State} (h : doRingEnd s = some t) :
    t = { s with now := t.now, bell := t.bell } := by
  simp only [doRingEnd] at h
  repeat' split at h
  all_goals
    cases h
    try apply State.ext_fields <;> simp

theorem doGapEnd_frame {s t : State} (h : doGapEnd s = some t) :
    t = { s with now := t.now, bell := t.bell } := by
  simp only [doGapEnd, startRing] at h
  repeat' split at h
  all_goals
    cases h
    try apply State.ext_fields <;> simp

theorem beginHeld_frame {s t : State} (h : beginHeld s = some t) :
    t = { s with printer := t.printer, motor := t.motor, bell := t.bell } := by
  simp only [beginHeld, emptyPrintSlot, beginAction, beginStrike, beginAdvance, beginReturn, beginFeeds, markerReturn] at h
  repeat' split at h
  all_goals
    cases h
    try apply State.ext_fields <;> simp

theorem beginPunchHeld_frame {s t : State} (h : beginPunchHeld s = some t) :
    t = { s with punch := t.punch, motor := t.motor } := by
  simp only [beginPunchHeld, punchEntry, beginCharacter, beginErase, beginWork] at h
  repeat' split at h
  all_goals
    cases h
    try apply State.ext_fields <;> simp



theorem doMarkToSpace_frame {time : Nat} {s t : State} (h : doMarkToSpace time s = some t) :
    t = { s with now := t.now, lineIn := t.lineIn, receiver := t.receiver, transmitter := t.transmitter,
                 controller := t.controller, events := t.events } := by
  have notConfirmed (u : State) (pending : u.controller.state = .callPending) : callNotConfirmed u =
      { u with
        receiver := (callNotConfirmed u).receiver
        transmitter := (callNotConfirmed u).transmitter
        controller := (callNotConfirmed u).controller
        events := (callNotConfirmed u).events } := by
    unfold callNotConfirmed
    rw [enterFree_of_unconnected (by rw [pending]; rfl) (by simp [pending]), raiseCleared_eq]
    repeat' split
    all_goals rfl
  have controller (u : State) : spaceAtController u =
      { u with
        receiver := (spaceAtController u).receiver
        transmitter := (spaceAtController u).transmitter
        controller := (spaceAtController u).controller
        events := (spaceAtController u).events } := by
    unfold spaceAtController
    split
    · next pending => exact notConfirmed u pending
    · rfl
  have receiver (u : State) : spaceAtReceiver u =
      { u with
        receiver := (spaceAtReceiver u).receiver
        transmitter := (spaceAtReceiver u).transmitter } := by
    simp only [spaceAtReceiver, startEdge]
    repeat' split
    all_goals rfl
  have run (u : State) : beginRun u = { u with receiver := (beginRun u).receiver } := by
    unfold beginRun
    split <;> rfl
  simp only [doMarkToSpace] at h
  split at h <;> cases h
  rw [run, controller, receiver]
  rfl

theorem doSpaceToMark_frame {time : Nat} {s t : State} (h : doSpaceToMark time s = some t) :
    t = { s with now := t.now, lineIn := t.lineIn, receiver := t.receiver, controller := t.controller } := by
  simp only [doSpaceToMark, markAtController, markAtReceiver] at h
  split at h <;> cases h
  repeat' split
  all_goals rfl

theorem lineTo_frame (level : Bool) (time : Nat) (s : State) :
    lineTo level time s =
      { s with
        now := (lineTo level time s).now
        lineIn := (lineTo level time s).lineIn
        receiver := (lineTo level time s).receiver
        transmitter := (lineTo level time s).transmitter
        controller := (lineTo level time s).controller
        events := (lineTo level time s).events } := by
  unfold lineTo
  split
  · cases h : doSpaceToMark time s with
    | none => rfl
    | some t => exact doSpaceToMark_frame h ▸ rfl
  · cases h : doMarkToSpace time s with
    | none => rfl
    | some t => exact doMarkToSpace_frame h ▸ rfl

/-- What a sample keeps, where a transition of LINE_IN and the count of those seen each keep it. -/
theorem beforeSample_keeps (P : State → Prop) (line : ∀ level time s, P s → P (lineTo level time s))
    (seen : ∀ s n, P s → P (s.setReceiver { s.receiver with ahead := n })) (t : Nat) {s : State} (h : P s) :
    P (beforeSample t s) := by
  unfold beforeSample
  generalize waitingTransitions t s = xs
  induction xs generalizing s with
  | nil => exact h
  | cons x xs ih => exact ih (seen _ _ (line x.1 x.2 s h))

/-- What the finding of a sample keeps, where both transitions of LINE_IN, the count of those seen and the clock each
keep it. -/
theorem atSample_keeps (P : State → Prop) (falls : ∀ time s t, P s → doMarkToSpace time s = some t → P t)
    (rises : ∀ time s t, P s → doSpaceToMark time s = some t → P t)
    (seen : ∀ s n, P s → P (s.setReceiver { s.receiver with ahead := n })) (clock : ∀ s n, P s → P (s.upTo n))
    {s t : State} {a : Assembly} (h : P s) (d : atSample s = some (a, t)) : P t := by
  have line (level : Bool) (time : Nat) (u : State) (hu : P u) : P (lineTo level time u) := by
    unfold lineTo
    cases level with
    | true =>
      cases taken : doSpaceToMark time u with
      | none => simpa [taken] using hu
      | some v => simpa [taken] using rises time u v hu taken
    | false =>
      cases taken : doMarkToSpace time u with
      | none => simpa [taken] using hu
      | some v => simpa [taken] using falls time u v hu taken
  simp only [atSample] at d
  repeat' split at d
  all_goals cases d
  exact clock _ _ (beforeSample_keeps P line seen _ h)

theorem beforeSample_frame (t : Nat) (s : State) :
    beforeSample t s =
      { s with
        now := (beforeSample t s).now
        lineIn := (beforeSample t s).lineIn
        receiver := (beforeSample t s).receiver
        transmitter := (beforeSample t s).transmitter
        controller := (beforeSample t s).controller
        events := (beforeSample t s).events } := by
  refine beforeSample_keeps
    (fun u => u =
      { s with
        now := u.now, lineIn := u.lineIn, receiver := u.receiver, transmitter := u.transmitter,
        controller := u.controller, events := u.events })
    (fun level time u hu => ?_) (fun u n hu => ?_) t rfl
  · rw [lineTo_frame, hu]
  · rw [hu]
    rfl

theorem atSample_frame {s t : State} {a : Assembly} (h : atSample s = some (a, t)) :
    t = { s with now := t.now, lineIn := t.lineIn, receiver := t.receiver, transmitter := t.transmitter,
                 controller := t.controller, events := t.events } := by
  simp only [atSample] at h
  split at h
  · split at h <;> cases h
    rw [beforeSample_frame]
    rfl
  · cases h

theorem doUnitSample_frame {s t : State} (h : doUnitSample s = some t) :
    t = { s with now := t.now, lineIn := t.lineIn, receiver := t.receiver, transmitter := t.transmitter,
                 controller := t.controller, events := t.events } := by
  simp only [doUnitSample] at h
  split at h
  · cases h
  · next a u sampled =>
    rw [atSample_frame sampled] at h
    repeat' split at h
    all_goals
      cases h
      try rfl

theorem doFalseStart_frame {s t : State} (h : doFalseStart s = some t) :
    t = { s with now := t.now, lineIn := t.lineIn, receiver := t.receiver, transmitter := t.transmitter,
                 controller := t.controller, events := t.events } := by
  simp only [doFalseStart, echoFailed] at h
  split at h
  · cases h
  · next a u sampled =>
    rw [atSample_frame sampled] at h
    repeat' split at h
    all_goals
      cases h
      try apply State.ext_fields <;> simp

theorem echoFailed_frame (s : State) :
    echoFailed s = { s with transmitter := (echoFailed s).transmitter, events := (echoFailed s).events } := by
  unfold echoFailed
  apply State.ext_fields <;> simp

theorem echoResult_frame (own : Bool) (q : Quality) (s : State) :
    echoResult own q s =
      { s with transmitter := (echoResult own q s).transmitter, events := (echoResult own q s).events } := by
  unfold echoResult
  repeat' split
  · exact echoFailed_frame s
  all_goals rfl

theorem wruLookup_frame (own : Bool) (q : Quality) (p : Plane) (c : Code) (s : State) :
    wruLookup own q p c s = { s with transmitter := (wruLookup own q p c s).transmitter } := by
  unfold wruLookup
  split
  · apply State.ext_fields <;> simp
  · rfl

theorem countCharacter_frame (q : Quality) (early late : Nat) (s : State) :
    countCharacter q early late s =
      { s with
        receiver := (countCharacter q early late s).receiver
        events := (countCharacter q early late s).events } := by
  simp only [countCharacter]
  repeat' split
  all_goals rfl

theorem completeCharacter_frame (a : Assembly) (s : State) :
    completeCharacter a s =
      { s with
        store := (completeCharacter a s).store
        receiver := (completeCharacter a s).receiver
        transmitter := (completeCharacter a s).transmitter
        motor := (completeCharacter a s).motor
        events := (completeCharacter a s).events } := by
  simp only [completeCharacter]
  rw [countCharacter_frame, wruLookup_frame, echoResult_frame]
  apply State.ext_fields <;> simp

theorem doCharacterCompletion_frame {s t : State} (h : doCharacterCompletion s = some t) :
    t = { s with now := t.now, lineIn := t.lineIn, store := t.store, receiver := t.receiver,
                 transmitter := t.transmitter, controller := t.controller, motor := t.motor,
                 events := t.events } := by
  simp only [doCharacterCompletion] at h
  split at h
  · cases h
  · next a u sampled =>
    split at h <;> cases h
    rw [completeCharacter_frame, atSample_frame sampled]

theorem doPrintTake_frame {s t : State} (h : doPrintTake s = some t) :
    t = { s with store := t.store, keyboard := t.keyboard, printer := t.printer } := by
  simp only [doPrintTake] at h
  split at h
  · split at h
    · cases h
    · next e u taken =>
      cases h
      rw [(takeEntry_eq taken).2]
      apply State.ext_fields <;> simp
  · cases h

theorem takeForPunch_frame (n : Nat) (c : CursorId) (s : State) :
    takeForPunch n c s =
      { s with
        store := (takeForPunch n c s).store
        keyboard := (takeForPunch n c s).keyboard
        punch := (takeForPunch n c s).punch } := by
  induction n generalizing s with
  | zero => rfl
  | succ n ih =>
    simp only [takeForPunch]
    split
    · rfl
    · next e u taken =>
      rw [(takeEntry_eq taken).2]
      split
      · rw [ih]
        apply State.ext_fields <;> simp
      · apply State.ext_fields <;> simp

theorem doPunchTake_frame {s t : State} (h : doPunchTake s = some t) :
    t = { s with store := t.store, keyboard := t.keyboard, punch := t.punch } := by
  simp only [doPunchTake] at h
  repeat' split at h
  all_goals cases h
  exact takeForPunch_frame _ _ s

theorem ringAtOnce_frame (s : State) : ringAtOnce s = { s with bell := (ringAtOnce s).bell } := by
  simp only [ringAtOnce, doRingBegin]
  split <;> rfl

theorem printGoesOn_frame (s : State) :
    printGoesOn s =
      { s with
        store := (printGoesOn s).store
        keyboard := (printGoesOn s).keyboard
        printer := (printGoesOn s).printer
        motor := (printGoesOn s).motor
        bell := (printGoesOn s).bell } := by
  refine printRun_keeps
    (fun u => u =
      { s with store := u.store, keyboard := u.keyboard, printer := u.printer, motor := u.motor, bell := u.bell })
    (fun u v h hu => ?_) (fun u hu => ?_) (fun u v h hu => ?_) _ s rfl
  · rw [doPrintTake_frame h, hu]
  · rw [ringAtOnce_frame, hu]
  · rw [beginHeld_frame h, hu]

theorem doPrintAction_frame {s t : State} (h : doPrintAction s = some t) :
    t = { s with store := t.store, keyboard := t.keyboard, printer := t.printer, motor := t.motor,
                 bell := t.bell } := by
  obtain ⟨u, begun, rfl⟩ := Option.map_eq_some_iff.1 h
  rw [printGoesOn_frame, beginHeld_frame begun]

theorem punchGoesOn_frame (s : State) :
    punchGoesOn s =
      { s with
        store := (punchGoesOn s).store
        keyboard := (punchGoesOn s).keyboard
        punch := (punchGoesOn s).punch
        motor := (punchGoesOn s).motor } := by
  refine punchRun_keeps
    (fun u => u = { s with store := u.store, keyboard := u.keyboard, punch := u.punch, motor := u.motor })
    (fun u v h hu => ?_) (fun u v h hu => ?_) _ s rfl
  · rw [doPunchTake_frame h, hu]
  · rw [beginPunchHeld_frame h, hu]

theorem doPunchAction_frame {s t : State} (h : doPunchAction s = some t) :
    t = { s with store := t.store, keyboard := t.keyboard, punch := t.punch, motor := t.motor } := by
  obtain ⟨u, begun, rfl⟩ := Option.map_eq_some_iff.1 h
  rw [punchGoesOn_frame, beginPunchHeld_frame begun]

theorem followStream_frame (e : Entry) (s : State) :
    followStream e s = { s with transmitter := (followStream e s).transmitter } := by
  unfold followStream
  split <;> rfl

theorem sendEmptyCheck_frame (s : State) : sendEmptyCheck s = { s with events := (sendEmptyCheck s).events } := by
  unfold sendEmptyCheck
  split <;> rfl

theorem doCharacterBegin_frame {s t : State} (h : doCharacterBegin s = some t) :
    t = { s with store := t.store, transmitter := t.transmitter, keyboard := t.keyboard, events := t.events } := by
  have fromSend (t : State) (h : beginFromSend s = some t) :
      t = { s with store := t.store, transmitter := t.transmitter, keyboard := t.keyboard,
                   events := t.events } := by
    simp only [beginFromSend] at h
    split at h
    · cases h
    · split at h
      · cases h; rfl
      · split at h
        · next e guard c e' u code taken =>
          cases h
          rw [(takeEntry_eq taken).2]
          rw [sendEmptyCheck_frame, followStream_frame]
          apply State.ext_fields <;> simp [keyCode]
        · cases h
  simp only [doCharacterBegin] at h
  split at h
  · split at h <;> cases h <;> rfl
  · split at h <;> cases h
    rfl
  · exact fromSend t h
  · cases h

/-- A keystroke touches the store, or locks the keyboard. -/
theorem strikeCode_frame (c : Code) (need : Option Plane) (s : State) :
    strikeCode c need s =
      { s with
        store := (strikeCode c need s).store
        keyboard := (strikeCode c need s).keyboard
        bell := (strikeCode c need s).bell
        events := (strikeCode c need s).events } := by
  unfold strikeCode
  split
  · rfl
  · split
    · next written => rw [putChar_frame written]; rfl
    · apply State.ext_fields <;> simp

theorem strikeErase_frame (s : State) :
    strikeErase s =
      { s with
        store := (strikeErase s).store
        keyboard := (strikeErase s).keyboard
        bell := (strikeErase s).bell
        events := (strikeErase s).events } := by
  unfold strikeErase
  repeat' split
  all_goals apply State.ext_fields <;> simp

theorem strikeKey_frame (k : Fin 64) (s : State) :
    strikeKey k s =
      { s with
        store := (strikeKey k s).store
        keyboard := (strikeKey k s).keyboard
        bell := (strikeKey k s).bell
        events := (strikeKey k s).events } := by
  unfold strikeKey
  split
  · exact strikeCode_frame _ _ s
  · exact strikeErase_frame s
  · rfl

theorem hereIsLocal_frame (s : State) :
    hereIsLocal s =
      { s with
        store := (hereIsLocal s).store
        keyboard := (hereIsLocal s).keyboard
        bell := (hereIsLocal s).bell
        events := (hereIsLocal s).events } := by
  unfold hereIsLocal
  repeat' split
  · rfl
  · rw [putText_frame]; rfl
  · apply State.ext_fields <;> simp

theorem doRepeat_frame {s t : State} (h : doRepeat s = some t) :
    t = { s with now := t.now, store := t.store, keyboard := t.keyboard, bell := t.bell, events := t.events } := by
  simp only [doRepeat] at h
  split at h <;> cases h
  rw [strikeKey_frame]
  rfl

theorem pressKey_frame (k : Fin 64) (s : State) :
    pressKey k s =
      { s with
        store := (pressKey k s).store
        modes := (pressKey k s).modes
        transmitter := (pressKey k s).transmitter
        keyboard := (pressKey k s).keyboard
        printer := (pressKey k s).printer
        punch := (pressKey k s).punch
        bell := (pressKey k s).bell
        events := (pressKey k s).events } := by
  simp only [pressKey]
  split
  case h_2 => split <;> first | rfl | (rw [strikeCode_frame]; rfl)
  case h_3 =>
    simp only [pressHereIs]
    split
    · rw [hereIsLocal_frame]; rfl
    · apply State.ext_fields <;> (split <;> simp [setKey])
  case h_5 => rw [strikeErase_frame]; rfl
  case h_6 =>
    simp only [pressBreak]
    apply State.ext_fields <;> (split <;> simp [setKey])
  all_goals apply State.ext_fields <;> simp [setKey, setFeeding]

theorem readKeyNow_frame (k : Fin 64) (closed : Bool) (s : State) :
    readKeyNow k closed s =
      { s with
        store := (readKeyNow k closed s).store
        modes := (readKeyNow k closed s).modes
        transmitter := (readKeyNow k closed s).transmitter
        keyboard := (readKeyNow k closed s).keyboard
        printer := (readKeyNow k closed s).printer
        punch := (readKeyNow k closed s).punch
        bell := (readKeyNow k closed s).bell
        events := (readKeyNow k closed s).events } := by
  simp only [readKeyNow]
  split
  · apply State.ext_fields <;> simp [setKey]
  · rw [pressKey_frame]
    apply State.ext_fields <;> simp
  · apply State.ext_fields <;> simp [releaseKey, setKey, setFeeding, setBarred]

theorem doDebounced_frame {k : Fin 6} {s t : State} (h : doDebounced k s = some t) :
    t = { s with now := t.now, store := t.store, modes := t.modes, receiver := t.receiver,
                 transmitter := t.transmitter, controller := t.controller, printer := t.printer, punch := t.punch,
                 motor := t.motor, sense := t.sense, bell := t.bell, events := t.events } := by
  simp only [doDebounced, debounceTo, senseAsserted, senseReleased, setInput] at h
  repeat' split at h
  all_goals
    cases h
    try apply State.ext_fields <;> simp

end Sys2Proof.Machine
end

section
/-! SUPPORT. What a record of the host touches: the state after its command is the state before it but for the fields
named. -/

namespace Sys2Proof.Machine

theorem doLineSetup_frame (p : List Byte) (s : State) :
    (doLineSetup p s).2 = { s with setup := (doLineSetup p s).2.setup } := by
  simp only [doLineSetup]
  repeat' split
  all_goals rfl

theorem doPrinterSetup_frame (p : List Byte) (s : State) :
    (doPrinterSetup p s).2 = { s with
        setup := (doPrinterSetup p s).2.setup, printer := (doPrinterSetup p s).2.printer } := by
  simp only [doPrinterSetup, putPrinterSetup]
  repeat' split
  all_goals rfl

theorem doKeyboardSetup_frame (p : List Byte) (s : State) :
    (doKeyboardSetup p s).2 = { s with setup := (doKeyboardSetup p s).2.setup } := by
  simp only [doKeyboardSetup]
  repeat' split
  all_goals rfl

theorem doPunchSetup_frame (p : List Byte) (s : State) :
    (doPunchSetup p s).2 = { s with setup := (doPunchSetup p s).2.setup } := by
  simp only [doPunchSetup]
  repeat' split
  all_goals rfl

theorem doMotorAndBellSetup_frame (p : List Byte) (s : State) :
    (doMotorAndBellSetup p s).2 = { s with
        setup := (doMotorAndBellSetup p s).2.setup, sense := (doMotorAndBellSetup p s).2.sense,
        motor := (doMotorAndBellSetup p s).2.motor } := by
  simp only [doMotorAndBellSetup]
  repeat' split
  all_goals apply State.ext_fields <;> simp [refuse]

theorem doRingLayout_frame (p : List Byte) (s : State) :
    (doRingLayout p s).2 = { s with
        store := (doRingLayout p s).2.store, controller := (doRingLayout p s).2.controller,
        keyboard := (doRingLayout p s).2.keyboard } := by
  simp only [doRingLayout, layOut]
  repeat' split
  all_goals apply State.ext_fields <;> simp [refuse]

theorem doLoadCodes_frame (p : List Byte) (s : State) :
    (doLoadCodes p s).2 = { s with tables := (doLoadCodes p s).2.tables } := by
  simp only [doLoadCodes]
  repeat' split
  all_goals rfl

theorem doLoadKeys_frame (p : List Byte) (s : State) :
    (doLoadKeys p s).2 = { s with tables := (doLoadKeys p s).2.tables, keyboard := (doLoadKeys p s).2.keyboard } := by
  simp only [doLoadKeys, barReloaded, keepFeeding]
  repeat' split
  all_goals apply State.ext_fields <;> simp [refuse]

theorem doLoadAnswerBack_frame (p : List Byte) (s : State) :
    (doLoadAnswerBack p s).2 = { s with tables := (doLoadAnswerBack p s).2.tables } := by
  simp only [doLoadAnswerBack]
  repeat' split
  all_goals rfl

theorem doLoadRefusalText_frame (p : List Byte) (s : State) :
    (doLoadRefusalText p s).2 = { s with tables := (doLoadRefusalText p s).2.tables } := by
  simp only [doLoadRefusalText]
  repeat' split
  all_goals rfl

theorem doSetMode_frame (p : List Byte) (s : State) :
    (doSetMode p s).2 = { s with
        store := (doSetMode p s).2.store, modes := (doSetMode p s).2.modes, keyboard := (doSetMode p s).2.keyboard,
        printer := (doSetMode p s).2.printer, punch := (doSetMode p s).2.punch,
        events := (doSetMode p s).2.events } := by
  simp only [doSetMode, putModes]
  repeat' split
  all_goals apply State.ext_fields <;> simp [refuse]

theorem doAnswer_frame (s : State) :
    (doAnswer s).2 = { s with
        store := (doAnswer s).2.store, modes := (doAnswer s).2.modes, receiver := (doAnswer s).2.receiver,
        transmitter := (doAnswer s).2.transmitter, controller := (doAnswer s).2.controller,
        keyboard := (doAnswer s).2.keyboard, printer := (doAnswer s).2.printer, events := (doAnswer s).2.events } := by
  simp only [doAnswer, lineReply, refuseLine]
  repeat' split
  all_goals apply State.ext_fields <;> simp [refuse]

theorem doOriginate_frame (s : State) :
    (doOriginate s).2 = { s with controller := (doOriginate s).2.controller } := by
  simp only [doOriginate, lineReply, refuseLine]
  repeat' split
  all_goals rfl

theorem doBreak_frame (s : State) :
    (doBreak s).2 = { s with transmitter := (doBreak s).2.transmitter } := by
  simp only [doBreak, lineReply, refuseLine]
  repeat' split
  all_goals apply State.ext_fields <;> simp [refuse]

theorem doHereIs_frame (s : State) :
    (doHereIs s).2 = { s with transmitter := (doHereIs s).2.transmitter } := by
  simp only [doHereIs, lineReply, refuseLine]
  repeat' split
  all_goals apply State.ext_fields <;> simp [refuse]

theorem doHaltSend_frame (s : State) :
    (doHaltSend s).2 = { s with transmitter := (doHaltSend s).2.transmitter, events := (doHaltSend s).2.events } := by
  simp only [doHaltSend, lineReply]
  apply State.ext_fields <;> simp

theorem doResumeSend_frame (s : State) :
    (doResumeSend s).2 = { s with transmitter := (doResumeSend s).2.transmitter } := by
  rfl

theorem doCancelSend_frame (s : State) :
    (doCancelSend s).2 = { s with store := (doCancelSend s).2.store, keyboard := (doCancelSend s).2.keyboard } := by
  simp only [doCancelSend, lineReply, cancelText]
  apply State.ext_fields <;> simp

theorem doPrinterStop_frame (s : State) :
    (doPrinterStop s).2 = { s with
        store := (doPrinterStop s).2.store, printer := (doPrinterStop s).2.printer,
        events := (doPrinterStop s).2.events } := by
  simp only [doPrinterStop, printerReply]
  apply State.ext_fields <;> simp

theorem doPrinterResume_frame (s : State) :
    (doPrinterResume s).2 = { s with printer := (doPrinterResume s).2.printer } := by
  rfl

theorem doPunchStop_frame (s : State) :
    (doPunchStop s).2 = { s with
        store := (doPunchStop s).2.store, punch := (doPunchStop s).2.punch, events := (doPunchStop s).2.events } := by
  simp only [doPunchStop, punchReply]
  apply State.ext_fields <;> simp

theorem doPunchResume_frame (s : State) :
    (doPunchResume s).2 = { s with punch := (doPunchResume s).2.punch } := by
  rfl

theorem doPunchFeed_frame (n : Byte) (s : State) :
    (doPunchFeed n s).2 = { s with punch := (doPunchFeed n s).2.punch } := by
  simp only [doPunchFeed, punchReply]
  repeat' split
  all_goals rfl

theorem doMotorRestart_frame (s : State) :
    (doMotorRestart s).2 = { s with
        receiver := (doMotorRestart s).2.receiver, transmitter := (doMotorRestart s).2.transmitter,
        controller := (doMotorRestart s).2.controller, punch := (doMotorRestart s).2.punch,
        motor := (doMotorRestart s).2.motor, events := (doMotorRestart s).2.events } := by
  simp only [doMotorRestart, restartMotor]
  repeat' split
  all_goals apply State.ext_fields <;> simp

theorem doReadTake_frame (c n : Byte) (s : State) :
    (doReadTake c n s).2 = { s with
        store := (doReadTake c n s).2.store, keyboard := (doReadTake c n s).2.keyboard } := by
  simp only [doReadTake, readReply, afterTake]
  repeat' split
  all_goals apply State.ext_fields <;> simp [refuse]

theorem doAttach_frame (c : Byte) (s : State) :
    (doAttach c s).2 = { s with store := (doAttach c s).2.store, events := (doAttach c s).2.events } := by
  simp only [doAttach, attachReply]
  repeat' split
  all_goals apply State.ext_fields <;> simp [refuse]

theorem doDetach_frame (c : Byte) (s : State) :
    (doDetach c s).2 = { s with store := (doDetach c s).2.store, keyboard := (doDetach c s).2.keyboard } := by
  simp only [doDetach, attachReply, detachHost]
  repeat' split
  all_goals apply State.ext_fields <;> simp [refuse]

theorem doStatistics_frame (s : State) :
    (doStatistics s).2 = { s with
        receiver := (doStatistics s).2.receiver, transmitter := (doStatistics s).2.transmitter,
        printer := (doStatistics s).2.printer, punch := (doStatistics s).2.punch } := by
  rfl


theorem doClear_frame (s : State) :
    (doClear s).2 =
      { s with
        store := (doClear s).2.store
        receiver := (doClear s).2.receiver
        transmitter := (doClear s).2.transmitter
        controller := (doClear s).2.controller
        events := (doClear s).2.events } := by
  simp only [doClear, lineReply, refuseLine, stopCallTimers]
  split
  all_goals apply State.ext_fields <;> simp [refuse]

theorem moveCursor_frame (c : CursorId) (delta : Int) (s : State) :
    moveCursor c delta s =
      { s with
        store := (moveCursor c delta s).store
        keyboard := (moveCursor c delta s).keyboard
        printer := (moveCursor c delta s).printer
        punch := (moveCursor c delta s).punch } := by
  simp only [moveCursor, markHeld]
  repeat' split
  all_goals apply State.ext_fields <;> simp

theorem doMoveReader_frame (cursor : Byte) (delta : Half) (s : State) :
    (doMoveReader cursor delta s).2 =
      { s with
        store := (doMoveReader cursor delta s).2.store
        keyboard := (doMoveReader cursor delta s).2.keyboard
        printer := (doMoveReader cursor delta s).2.printer
        punch := (doMoveReader cursor delta s).2.punch } := by
  simp only [doMoveReader]
  repeat' split
  · rfl
  · rfl
  · exact moveCursor_frame _ _ s

theorem doWriteText_frame (p : List Byte) (s : State) :
    (doWriteText p s).2 = { s with store := (doWriteText p s).2.store } := by
  simp only [doWriteText]
  repeat' split
  · rfl
  · rfl
  · rfl
  · exact writeHostText_frame _ _ _ _ s

theorem doWriteCodes_frame (p : List Byte) (s : State) :
    (doWriteCodes p s).2 = { s with store := (doWriteCodes p s).2.store } := by
  simp only [doWriteCodes]
  repeat' split
  · rfl
  · rfl
  · rfl
  · rfl
  · exact writeHostCodes_frame _ _ _ s

theorem doReadPeek_state (cursor : Byte) (offset : Half) (count : Byte) (s : State) :
    (doReadPeek cursor offset count s).2 = s := by
  simp only [doReadPeek, readReply]
  repeat' split
  all_goals rfl

theorem applyEventSettings_frame (es : List (Byte × Byte × Byte)) (s : State) :
    applyEventSettings es s = { s with events := (applyEventSettings es s).events } := by
  induction es generalizing s with
  | nil => rfl
  | cons e es ih => rw [applyEventSettings, ih]; rfl

theorem doEventSetup_frame (p : List Byte) (s : State) :
    (doEventSetup p s).2 = { s with events := (doEventSetup p s).2.events } := by
  simp only [doEventSetup]
  repeat' split
  · rfl
  · rfl
  · rfl
  · exact applyEventSettings_frame _ s

theorem clearEvents_frame (es : List (Fin 16)) (s : State) :
    clearEvents es s = { s with events := (clearEvents es s).events } := by
  induction es generalizing s with
  | nil => rfl
  | cons e es ih => rw [clearEvents, ih]; rfl

theorem raiseSenseChange_eq (s : State) :
    raiseSenseChange s = { s with events := (raiseSenseChange s).events } := by
  unfold raiseSenseChange
  split <;> rfl

theorem doEventClear_frame (p : List Byte) (s : State) :
    (doEventClear p s).2 = { s with events := (doEventClear p s).2.events } := by
  simp only [doEventClear, clearNamed]
  repeat' split
  · rfl
  · rfl
  · rw [raiseSenseChange_eq, clearEvents_frame]
  · exact clearEvents_frame _ s

theorem restartAll_frame (s : State) :
    restartAll s =
      { s with
        store := (restartAll s).store
        receiver := (restartAll s).receiver
        transmitter := (restartAll s).transmitter
        controller := (restartAll s).controller
        keyboard := (restartAll s).keyboard
        printer := (restartAll s).printer
        punch := (restartAll s).punch
        motor := (restartAll s).motor
        bell := (restartAll s).bell
        events := (restartAll s).events } := by
  simp only [restartAll, restartEvents, restartLine, restartReceiver, restartKeyboard, restartPrinter, restartPunch]
  split
  all_goals apply State.ext_fields <;> simp

end Sys2Proof.Machine
end

section
/-! SUPPORT. What a record can do (R190): one case for each command, and how a meaning keeps what the clock, the queue,
the host link, the event table and the sense inputs do not disturb. -/

namespace Sys2Proof.Machine

/-! ## The effects of the records -/

/-- What a record of a kind can make of a state; `dispatch_effect` ties it to the model. -/
inductive Effect (s : State) : Byte → State → Prop where
  | none (k : Byte) : Effect s k s
  | lineSetup (p : List Byte) : Effect s 0x10 (doLineSetup p s).2
  | printerSetup (p : List Byte) : Effect s 0x11 (doPrinterSetup p s).2
  | keyboardSetup (p : List Byte) : Effect s 0x12 (doKeyboardSetup p s).2
  | punchSetup (p : List Byte) : Effect s 0x13 (doPunchSetup p s).2
  | motorAndBellSetup (p : List Byte) : Effect s 0x14 (doMotorAndBellSetup p s).2
  | ringLayout (p : List Byte) : Effect s 0x18 (doRingLayout p s).2
  | loadCodes (p : List Byte) : Effect s 0x20 (doLoadCodes p s).2
  | loadKeys (p : List Byte) : Effect s 0x21 (doLoadKeys p s).2
  | loadAnswerBack (p : List Byte) : Effect s 0x22 (doLoadAnswerBack p s).2
  | loadRefusalText (p : List Byte) : Effect s 0x23 (doLoadRefusalText p s).2
  | setMode (p : List Byte) : Effect s 0x30 (doSetMode p s).2
  | answer : Effect s 0x31 (doAnswer s).2
  | originate : Effect s 0x31 (doOriginate s).2
  | clear : Effect s 0x31 (doClear s).2
  | breakSend : Effect s 0x31 (doBreak s).2
  | hereIs : Effect s 0x31 (doHereIs s).2
  | haltSend : Effect s 0x31 (doHaltSend s).2
  | resumeSend : Effect s 0x31 (doResumeSend s).2
  | cancelSend : Effect s 0x31 (doCancelSend s).2
  | printerStop : Effect s 0x32 (doPrinterStop s).2
  | printerResume : Effect s 0x32 (doPrinterResume s).2
  | punchStop : Effect s 0x33 (doPunchStop s).2
  | punchResume : Effect s 0x33 (doPunchResume s).2
  | punchFeed (n : Byte) : Effect s 0x33 (doPunchFeed n s).2
  | motorRestart : Effect s 0x34 (doMotorRestart s).2
  | writeText (p : List Byte) : Effect s 0x40 (doWriteText p s).2
  | writeCodes (p : List Byte) : Effect s 0x41 (doWriteCodes p s).2
  | readTake (c n : Byte) : Effect s 0x48 (doReadTake c n s).2
  | moveReader (c : Byte) (delta : Half) : Effect s 0x49 (doMoveReader c delta s).2
  | attach (c : Byte) : Effect s 0x4A (doAttach c s).2
  | detach (c : Byte) : Effect s 0x4A (doDetach c s).2
  | statistics : Effect s 0x51 (doStatistics s).2
  | eventSetup (p : List Byte) : Effect s 0x60 (doEventSetup p s).2
  | eventClear (p : List Byte) : Effect s 0x61 (doEventClear p s).2
  | restart : Effect s 0x7E (restartAll s)

theorem doLineAction_effect (p : List Byte) (s : State) : Effect s 0x31 (doLineAction p s).2 := by
  unfold doLineAction
  split
  · split
    · exact .answer
    · exact .originate
    · exact .clear
    · exact .breakSend
    · exact .hereIs
    · exact .haltSend
    · exact .resumeSend
    · exact .cancelSend
    · exact .none _
  · exact .none _

theorem doPrinterAction_effect (p : List Byte) (s : State) : Effect s 0x32 (doPrinterAction p s).2 := by
  unfold doPrinterAction
  split
  · split
    · exact .printerStop
    · exact .printerResume
    · exact .none _
  · exact .none _

theorem doPunchActionRecord_effect (p : List Byte) (s : State) : Effect s 0x33 (doPunchActionRecord p s).2 := by
  unfold doPunchActionRecord
  split
  · split
    · exact .punchStop
    · exact .punchResume
    · exact .punchFeed _
    · exact .none _
  · exact .none _

theorem doReadEntries_effect (p : List Byte) (s : State) : Effect s 0x48 (doReadEntries p s).2 := by
  unfold doReadEntries
  split
  · split
    · exact .readTake _ _
    · rw [doReadPeek_state]
      exact .none _
    · exact .none _
  · exact .none _

theorem doMove_effect (p : List Byte) (s : State) : Effect s 0x49 (doMove p s).2 := by
  unfold doMove
  split
  · exact .moveReader _ _
  · exact .none _

theorem doAttachRecord_effect (p : List Byte) (s : State) : Effect s 0x4A (doAttachRecord p s).2 := by
  unfold doAttachRecord
  split
  · split
    · exact .detach _
    · exact .attach _
    · exact .none _
  · exact .none _

theorem doEmpty_effect {k : Byte} {act : State → Reply × State} (p : List Byte) {s : State}
    (h : Effect s k (act s).2) : Effect s k (doEmpty k act p s).2 := by
  unfold doEmpty
  split
  · exact h
  · exact .none _

theorem dispatch_effect (k : Byte) (p : List Byte) (s : State) : Effect s k (dispatch k p s).2 := by
  by_cases known : k ∈ commandKinds
  · simp only [commandKinds, List.mem_cons, List.not_mem_nil, or_false] at known
    rcases known with rfl | rfl | rfl | rfl | rfl | rfl | rfl | rfl | rfl | rfl | rfl | rfl | rfl | rfl | rfl | rfl
      | rfl | rfl | rfl | rfl | rfl | rfl | rfl | rfl | rfl
    · exact .lineSetup p
    · exact .printerSetup p
    · exact .keyboardSetup p
    · exact .punchSetup p
    · exact .motorAndBellSetup p
    · exact .ringLayout p
    · exact .loadCodes p
    · exact .loadKeys p
    · exact .loadAnswerBack p
    · exact .loadRefusalText p
    · exact .setMode p
    · exact doLineAction_effect p s
    · exact doPrinterAction_effect p s
    · exact doPunchActionRecord_effect p s
    · exact doEmpty_effect p .motorRestart
    · exact .writeText p
    · exact .writeCodes p
    · exact doReadEntries_effect p s
    · exact doMove_effect p s
    · exact doAttachRecord_effect p s
    · exact doEmpty_effect p (.none _)
    · exact doEmpty_effect p .statistics
    · exact .eventSetup p
    · exact .eventClear p
    · exact doEmpty_effect p .restart
  · rw [dispatch_of_unknown known]
    exact .none _

/-! ## What neither the clock nor the host link disturbs -/

/-- A property of the machine that does not look at the clock, the count of ties, the queue, the transitions seen,
the host link, the event table and the sense inputs. -/
structure Inert (P : State → Prop) : Prop where
  now : ∀ s v, P s → P (s.setNow v)
  ticket : ∀ s v, P s → P (s.setTicket v)
  pending : ∀ s v, P s → P (s.setPending v)
  ahead : ∀ s n, P s → P (s.setReceiver { s.receiver with ahead := n })
  link : ∀ s v, P s → P (s.setLink v)
  events : ∀ s v, P s → P (s.setEvents v)
  sense : ∀ s v, P s → P (s.setSense v)

namespace Inert

variable {P : State → Prop} (inert : Inert P)
include inert

theorem raise {s : State} (e : Fin 16) (data : Option Byte) (h : P s) : P (raise e data s) :=
  inert.events s _ h

theorem upTo {s : State} (t : Nat) (h : P s) : P (s.upTo t) :=
  inert.now s _ h

theorem raiseSenseChange {s : State} (h : P s) : P (raiseSenseChange s) := by
  rw [raiseSenseChange_eq]
  exact inert.events s _ h

theorem chooseOutgoing {s : State} (h : P s) : P (chooseOutgoing s) := by
  have sent (bytes : List Byte) (reply : Bool) (u : State) (hu : P u) : P (beginSending bytes reply u) :=
    inert.link u _ hu
  unfold Machine.chooseOutgoing
  split
  · exact h
  · split
    · simp only [beginReply]
      split
      · exact sent _ _ _ (inert.link s _ h)
      · exact inert.sense _ _ (sent _ _ _ (inert.link s _ h))
    · split
      · next e _ =>
        have data : P (takeEventData e s) := by
          unfold takeEventData
          split
          · exact inert.events s _ h
          · exact h
        simp only [beginNotice]
        split
        · exact inert.sense _ _ (inert.events _ _ (sent _ _ _ data))
        · exact inert.events _ _ (sent _ _ _ data)
      · exact h

theorem framingFault {s : State} (h : P s) : P (framingFault s) := by
  unfold Machine.framingFault
  split
  · exact inert.link s _ h
  · exact inert.raise _ _ (inert.link s _ h)

theorem takeRecord {act : State → Reply × State} (acts : ∀ s, P s → P (act s).2) {s : State} (h : P s) :
    P (takeRecord act s) := by
  have emptied : P (emptyBuffer s) := inert.link s _ h
  simp only [Machine.takeRecord]
  split
  · exact inert.raise _ _ emptied
  · exact inert.link _ _ (acts _ emptied)

theorem hostRecord {n : Nat} {act : State → Reply × State} (acts : ∀ s, P s → P (act s).2) {s : State} (h : P s) :
    P (hostRecord n act s) := by
  unfold Machine.hostRecord
  split
  · exact inert.link s _ h
  · split
    · exact inert.framingFault h
    · exact inert.takeRecord acts h

theorem takeByte (records : ∀ k p s, P s → P (dispatch k p s).2) (b : Byte) {s : State} (h : P s) :
    P (takeByte b s) := by
  unfold Machine.takeByte
  split
  · exact inert.link s _ h
  · split
    · exact inert.link s _ h
    · split
      · exact inert.framingFault h
      · split
        · exact inert.takeRecord (records _ _) h
        · exact inert.link s _ h
    · split
      · exact inert.takeRecord (records _ _) h
      · exact inert.link s _ h

theorem doGapExpiry {s t : State} (h : P s) (d : doGapExpiry s = some t) : P t := by
  rw [doGapExpiry_frame d]
  exact inert.events _ _ (inert.link _ _ (inert.now s _ h))

theorem doOverrun {s t : State} (h : P s) (d : doOverrun s = some t) : P t := by
  rw [doOverrun_frame d]
  exact inert.events (s.setLink t.link) t.events (inert.link s t.link h)

theorem doRecordEnd {s t : State} (h : P s) (d : doRecordEnd s = some t) : P t := by
  rw [doRecordEnd_frame d]
  exact inert.link _ _ (inert.now s _ h)

theorem doSensePin {k : Fin 6} {level : Bool} {time : Nat} {s t : State} (h : P s)
    (d : doSensePin k level time s = some t) : P t := by
  rw [doSensePin_frame d]
  exact inert.sense _ _ (inert.now s _ h)

/-- Every step keeps such a property, where a release of RESET, every record, both transitions of LINE_IN, a key
reading and the part's own steps keep it. -/
theorem step_keeps (power : ∀ rate s, P s → P (powerOn rate s))
    (records : ∀ k s t, P s → Effect s k t → P t)
    (falls : ∀ time s t, P s → doMarkToSpace time s = some t → P t)
    (rises : ∀ time s t, P s → doSpaceToMark time s = some t → P t)
    (key : ∀ k closed s, P s → P (readKeyNow k closed s))
    (own : ∀ i f s t, ownDo i = some f → P s → f s = some t → P t) {s t : State} (h : P s)
    (d : step s = .next t) : P t := by
  have dispatched (k : Byte) (p : List Byte) (s : State) (h : P s) : P (dispatch k p s).2 :=
    records k s _ h (dispatch_effect k p s)
  exact Machine.step_keeps P inert.pending inert.ticket (fun s => inert.now s _)
    (fun i s t => exec_keeps P (fun _ => inert.chooseOutgoing) (fun _ _ => inert.upTo _) inert.ahead power
      (fun _ => inert.framingFault) (fun b _ => inert.takeByte dispatched b)
      (fun k p _ => inert.hostRecord (dispatched k p)) falls rises key own)
    h d

end Inert

end Sys2Proof.Machine
end

section
/-! SUPPORT. A write into a ring and what it leaves in place (R3 to R5): the places of the retained entries before and
after it, the laps that follow a write into TRAFFIC (R11), and the order of the store by ring. -/

namespace Sys2Proof.Machine

/-! ## The order of the store, ring by ring -/

theorem Ring.apart.symm {r q : Ring} (h : r.apart q) : q.apart r := Or.symm h

/-- The store in order, for any ring and any two rings. -/
theorem storeOk_iff (s : State) :
    StoreOk s ↔
      Memory.wf s.store.cells = true ∧ (∀ i, (s.ring i).ok) ∧ (∀ i j, i ≠ j → (s.ring i).apart (s.ring j))
      ∧ ∀ i, retainedFit s i := by
  constructor
  · rintro ⟨wf, ot, os, ol, ts, tl, sl, ft, fs, fl⟩
    refine ⟨wf, ?_, fun i j ne => ?_, ?_⟩
    · rintro (_ | _ | _) <;> assumption
    · cases i <;> cases j
      case traffic.send => exact ts
      case traffic.loc => exact tl
      case send.loc => exact sl
      case send.traffic => exact ts.symm
      case loc.traffic => exact tl.symm
      case loc.send => exact sl.symm
      all_goals exact absurd rfl ne
    · rintro (_ | _ | _) <;> assumption
  · rintro ⟨wf, ok, apart, fit⟩
    exact ⟨wf, ok _, ok _, ok _, apart _ _ nofun, apart _ _ nofun, apart _ _ nofun, fit _, fit _, fit _⟩

/-- What is retained is a matter of the cells and the rings alone. -/
theorem entryBack_congr {s t : State} (cells : t.store.cells = s.store.cells) (rings : t.store.rings = s.store.rings)
    (i : RingId) (j : Nat) : entryBack t i j = entryBack s i j := by
  have ring : t.ring i = s.ring i := by simp only [State.ring, rings]
  simp only [entryBack, ring, cells]

/-- So is the order of the store. -/
theorem storeOk_congr {s t : State} (cells : t.store.cells = s.store.cells) (rings : t.store.rings = s.store.rings) :
    StoreOk t ↔ StoreOk s := by
  have ring (i : RingId) : t.ring i = s.ring i := by simp only [State.ring, rings]
  have fit (i : RingId) : retainedFit t i ↔ retainedFit s i := by
    simp only [retainedFit, ring, entryBack_congr cells rings]
  simp only [storeOk_iff, ring, cells, fit]

theorem storeOk_of_store {s t : State} (store : t.store = s.store) : StoreOk t ↔ StoreOk s :=
  storeOk_congr (by rw [store]) (by rw [store])

/-! ## The places of the retained entries (R4, R5) -/

section Places

variable {r : Ring} (ok : r.ok)
include ok

/-- An unfilled ring counts no further than its length, so one more write does not wrap its count. -/
theorem Ring.w_advance_of_unfilled (unfilled : r.filled = false) : (r.w + 1).toNat = r.w.toNat + 1 := by
  obtain ⟨_, h2, _, _, _, h6, _⟩ := ok
  have := h6 unfilled
  rw [BitVec.toNat_add]
  simp
  omega

/-- What is retained lies within the ring. -/
theorem Ring.retained_le_len : r.retained ≤ r.len := by
  obtain ⟨_, _, _, _, _, h6, _⟩ := ok
  unfold Ring.retained
  split
  · exact Nat.le_refl _
  · next unfilled => exact Nat.le_of_lt (h6 (by simpa using unfilled))

theorem Ring.owns_cellBack (j : Nat) : r.owns (r.cellBack j) := by
  obtain ⟨h1, _⟩ := ok
  have := Nat.mod_lt (r.place - r.base + r.len - j) (show 0 < r.len by omega)
  unfold Ring.owns Ring.cellBack
  omega

/-- After one write the newest entry stands in the place that was to be written. -/
theorem Ring.cellBack_advance_one : r.advance.cellBack 1 = r.place := by
  obtain ⟨h1, _, _, h4, h5, _⟩ := ok
  simp only [Ring.cellBack, Ring.advance]
  split
  · rw [Nat.sub_self, Nat.zero_add, Nat.mod_eq_of_lt (by omega)]
    omega
  · rw [show r.place + 1 - r.base + r.len - 1 = r.place - r.base + r.len by omega, Nat.add_mod_right,
      Nat.mod_eq_of_lt (by omega)]
    omega

/-- Every other entry lies one further back from the write place. -/
theorem Ring.cellBack_advance_succ {j : Nat} (hj : j < r.len) : r.advance.cellBack (j + 1) = r.cellBack j := by
  obtain ⟨h1, _, _, h4, h5, _⟩ := ok
  simp only [Ring.cellBack, Ring.advance]
  split
  · rw [show r.place - r.base + r.len - j = r.base - r.base + r.len - (j + 1) + r.len by omega, Nat.add_mod_right]
  · rw [show r.place + 1 - r.base + r.len - (j + 1) = r.place - r.base + r.len - j by omega]

/-- No entry retained before a full round stands in the write place. -/
theorem Ring.cellBack_ne_place {j : Nat} (h : 1 ≤ j) (hj : j < r.len) : r.cellBack j ≠ r.place := by
  obtain ⟨h1, _, _, h4, h5, _⟩ := ok
  unfold Ring.cellBack
  by_cases wraps : r.place - r.base < j
  · rw [Nat.mod_eq_of_lt (by omega)]
    omega
  · rw [show r.place - r.base + r.len - j = r.place - r.base - j + r.len by omega, Nat.add_mod_right,
      Nat.mod_eq_of_lt (by omega)]
    omega

/-- One write retains one entry more, up to the length. -/
theorem Ring.retained_advance_lt {j : Nat} (hj : j < r.len) : r.advance.retained < j + 1 ↔ r.retained < j := by
  have w := r.w_advance_of_unfilled ok
  obtain ⟨_, _, _, _, _, h6, _⟩ := ok
  cases filled : r.filled with
  | true => simp only [Ring.retained, Ring.advance, filled, Bool.true_or]; simp; omega
  | false =>
    have := h6 filled
    simp only [Ring.retained, Ring.advance, filled, Bool.false_or, w filled, beq_iff_eq]
    split <;> simp
    omega

theorem Ring.one_le_retained_advance : 1 ≤ r.advance.retained := by
  have w := r.w_advance_of_unfilled ok
  obtain ⟨h1, _⟩ := ok
  cases filled : r.filled with
  | true => simp only [Ring.retained, Ring.advance, filled, Bool.true_or]; simp; omega
  | false =>
    simp only [Ring.retained, Ring.advance, filled, Bool.false_or, w filled, beq_iff_eq]
    split <;> omega

end Places

/-- Cells of rings that lie apart differ. -/
theorem Ring.apart.ne_of_owns {r q : Ring} (apart : r.apart q) {a b : Nat} (ha : r.owns a) (hb : q.owns b) :
    a ≠ b := by
  unfold Ring.apart at apart
  unfold Ring.owns at ha hb
  omega

theorem Ring.owns_place {r : Ring} (ok : r.ok) : r.owns r.place := ⟨ok.2.2.2.1, ok.2.2.2.2.1⟩

/-! ## What a write leaves retained (R4, R5) -/

theorem entryBack_zero (s : State) (i : RingId) : entryBack s i 0 = none := by simp [entryBack]

theorem entryBack_of_retained {s : State} {i : RingId} {j : Nat} (h : 1 ≤ j) (hj : j ≤ (s.ring i).retained) :
    entryBack s i j = readCell s.store.cells ((s.ring i).cellBack j) := by
  simp only [entryBack]
  rw [if_neg (by omega)]

theorem entryBack_beyond {s : State} {i : RingId} {j : Nat} (hj : (s.ring i).retained < j) :
    entryBack s i j = none := by
  simp only [entryBack]
  rw [if_pos (.inr hj)]

section Written

variable {s : State} (ok : StoreOk s) (i : RingId) (e : Entry)
include ok

/-- The entry written is the newest retained. -/
theorem entryBack_append_one : entryBack (appendEntry i e s) i 1 = some e := by
  obtain ⟨_, rings, _, _⟩ := (storeOk_iff s).1 ok
  have newest := Ring.one_le_retained_advance (rings i)
  rw [entryBack_of_retained (Nat.le_refl 1) (by rwa [appendEntry_ring_same]), appendEntry_ring_same,
    Ring.cellBack_advance_one (rings i)]
  exact readCell_writeCell_same _ _ _

/-- Every entry retained before lies one further back. -/
theorem entryBack_append_succ {j : Nat} (h : 1 ≤ j) (hj : j < (s.ring i).len) :
    entryBack (appendEntry i e s) i (j + 1) = entryBack s i j := by
  obtain ⟨_, rings, _, _⟩ := (storeOk_iff s).1 ok
  have retained := Ring.retained_advance_lt (rings i) hj
  by_cases beyond : (s.ring i).retained < j
  · rw [entryBack_beyond beyond, entryBack_beyond (by rwa [appendEntry_ring_same, retained])]
  · rw [entryBack_of_retained h (by omega), entryBack_of_retained (by omega) (by rw [appendEntry_ring_same]; omega),
      appendEntry_ring_same, Ring.cellBack_advance_succ (rings i) hj]
    exact readCell_writeCell_other (Ring.cellBack_ne_place (rings i) h hj) _ _

/-- The entries of the other rings stay. -/
theorem entryBack_append_other {k : RingId} (ne : k ≠ i) (j : Nat) :
    entryBack (appendEntry i e s) k j = entryBack s k j := by
  obtain ⟨_, rings, apart, _⟩ := (storeOk_iff s).1 ok
  have other := appendEntry_ring_other ne e s
  by_cases retained : 1 ≤ j ∧ j ≤ (s.ring k).retained
  · rw [entryBack_of_retained retained.1 retained.2, entryBack_of_retained retained.1 (by rw [other]; exact retained.2),
      other]
    exact readCell_writeCell_other
      ((apart k i ne).ne_of_owns (Ring.owns_cellBack (rings k) j) (Ring.owns_place (rings i))) _ _
  · simp only [entryBack, other]
    rw [if_pos (by omega), if_pos (by omega)]

/-- A write of an entry that the ring receives keeps the store in order. -/
theorem StoreOk.appendEntry (fits : entryFits i e = true) : StoreOk (appendEntry i e s) := by
  have whole := ok
  obtain ⟨wf, rings, apart, fit⟩ := (storeOk_iff s).1 ok
  have ring (k : RingId) : (Machine.appendEntry i e s).ring k = if k = i then (s.ring i).advance else s.ring k := by
    split
    · next same => subst same; exact appendEntry_ring_same _ e s
    · next ne => exact appendEntry_ring_other ne e s
  refine (storeOk_iff _).2 ⟨appendEntry_wf e (rings i) wf, fun k => ?_, fun k l ne => ?_, fun k j one le => ?_⟩
  · rw [ring]
    split
    · exact Ring.ok_advance (rings i)
    · exact rings k
  · have := apart k l ne
    rw [ring, ring]
    split <;> split <;> simp_all [Ring.apart, Ring.advance]
  · rw [ring] at le
    split at le
    · next same =>
      subst same
      have len := Ring.retained_le_len (Ring.ok_advance (rings k))
      obtain rfl | more : j = 1 ∨ 1 < j := by omega
      · exact ⟨e, entryBack_append_one whole k e, fits⟩
      · obtain ⟨n, rfl⟩ : ∃ n, j = n + 1 := ⟨j - 1, by omega⟩
        have short : n < (s.ring k).len := Nat.lt_of_lt_of_le (Nat.lt_of_succ_le le) len
        have := Ring.retained_advance_lt (rings k) short
        rw [entryBack_append_succ whole k e (by omega) short]
        exact fit k n (by omega) (by omega)
    · next ne =>
      rw [entryBack_append_other whole i e ne]
      exact fit k j one le

end Written

end Sys2Proof.Machine
end

section
/-! The writes into the rings (R4, R11, R13): a write, the laps that follow one into TRAFFIC, the free space, and the
claim O37. -/

namespace Sys2Proof.Machine

/-! ## The laps of TRAFFIC (R11) -/

/-- A cursor of TRAFFIC is over the length once another entry has been written; `lapIfOver_eq` ties it to the
model. -/
def lapDue (s : State) (c : CursorId) : Bool :=
  (s.cursor c).attached && decide ((s.ring .traffic).len < ((s.ring .traffic).w + 1 - (s.cursor c).r).toNat)

/-- What a lap makes of a state that a write of s has led to; `lapIfOver_eq` ties it to the model. -/
def lapped (s u : State) (c : CursorId) : State :=
  { u.setCursor c
      { r := (s.ring .traffic).w + 1 - BitVec.ofNat 32 (s.ring .traffic).len, attached := true
        lost := min 65535 ((s.cursor c).lost + 1) } with
    events := occurs 7 (some (byte c.number)) u }

theorem lapIfOver_eq {s u : State} {c : CursorId} (mine : c.ring = .traffic)
    (ring : u.ring .traffic = (s.ring .traffic).advance) (cursor : u.cursor c = s.cursor c) :
    lapIfOver c u = if lapDue s c then lapped s u c else u := by
  have passed : ((u.cursor c).attached && decide ((u.ring c.ring).len < unread u c)) = lapDue s c := by
    rw [lapDue, unread, mine, ring, cursor]
    rfl
  unfold lapIfOver
  rw [passed]
  split
  · next due =>
    have attached : (s.cursor c).attached = true := by
      rw [lapDue, Bool.and_eq_true] at due
      exact due.1
    simp only [lapCursor, mine, ring, cursor, raise_eq, attached]
    rfl
  · rfl

theorem lapped_ring (s u : State) (c : CursorId) (i : RingId) : (lapped s u c).ring i = u.ring i := rfl

/-- A write into TRAFFIC and its laps, in the order of the cursors' numbers. -/
theorem writeTraffic_eq (e : Entry) (s : State) :
    writeTraffic e s =
      ([CursorId.printP, .punchT, .hostT].filter (lapDue s)).foldl (lapped s) (appendEntry .traffic e s) := by
  have printP := lapIfOver_eq (s := s) (u := appendEntry .traffic e s) (c := .printP) rfl
    (appendEntry_ring_same _ e s) rfl
  have punchT := lapIfOver_eq (s := s) (u := lapIfOver .printP (appendEntry .traffic e s)) (c := .punchT) rfl
    (by rw [printP]; split <;> simp only [lapped_ring, appendEntry_ring_same]) (by rw [printP]; split <;> rfl)
  have hostT := lapIfOver_eq (s := s)
    (u := lapIfOver .punchT (lapIfOver .printP (appendEntry .traffic e s))) (c := .hostT) rfl
    (by rw [punchT, printP]; split <;> split <;> simp only [lapped_ring, appendEntry_ring_same])
    (by rw [punchT, printP]; split <;> split <;> rfl)
  rw [writeTraffic, hostT, punchT, printP]
  simp only [List.filter_cons, List.filter_nil]
  split <;> split <;> split <;> rfl

/-- The laps move cursors alone: cells and rings are as the write leaves them. -/
theorem lapIfOver_store (c : CursorId) (s : State) :
    (lapIfOver c s).store.cells = s.store.cells ∧ (lapIfOver c s).store.rings = s.store.rings := by
  simp only [lapIfOver, lapCursor]
  split <;> simp [State.setCursor]

theorem writeTraffic_cells_rings (e : Entry) (s : State) :
    (writeTraffic e s).store.cells = (appendEntry .traffic e s).store.cells
    ∧ (writeTraffic e s).store.rings = (appendEntry .traffic e s).store.rings := by
  simp only [writeTraffic, lapIfOver_store, and_self]

theorem entryBack_writeTraffic (e : Entry) (s : State) (i : RingId) (j : Nat) :
    entryBack (writeTraffic e s) i j = entryBack (appendEntry .traffic e s) i j :=
  entryBack_congr (writeTraffic_cells_rings e s).1 (writeTraffic_cells_rings e s).2 i j

/-! ## The free space (R13) -/

/-- An attached cursor's unread count counts against the free space of its ring. -/
theorem unread_le_maxUnread {s : State} {c : CursorId} (attached : (s.cursor c).attached = true) :
    unread s c ≤ maxUnread s c.ring := by
  have held : holding s c = unread s c := if_pos attached
  cases c <;> simp only [CursorId.ring, maxUnread] <;> omega

theorem maxUnread_eq_holding (s : State) (i : RingId) : ∃ c, c.ring = i ∧ maxUnread s i = holding s c := by
  cases i with
  | send => exact ⟨.xmit, rfl, rfl⟩
  | traffic =>
    rcases max_choice (holding s .printP) (max (holding s .punchT) (holding s .hostT)) with h | h
    · exact ⟨.printP, rfl, h⟩
    · rcases max_choice (holding s .punchT) (holding s .hostT) with g | g
      · exact ⟨.punchT, rfl, h.trans g⟩
      · exact ⟨.hostT, rfl, h.trans g⟩
  | loc =>
    rcases max_choice (holding s .printA) (max (holding s .punchL) (holding s .hostL)) with h | h
    · exact ⟨.printA, rfl, h⟩
    · rcases max_choice (holding s .punchL) (holding s .hostL) with g | g
      · exact ⟨.punchL, rfl, h.trans g⟩
      · exact ⟨.hostL, rfl, h.trans g⟩

/-- The largest count is that of an attached cursor, or none is attached and it is 0. -/
theorem maxUnread_attained (s : State) (i : RingId) :
    (∃ c, c.ring = i ∧ (s.cursor c).attached = true ∧ maxUnread s i = unread s c)
    ∨ ((∀ c, c.ring = i → (s.cursor c).attached ≠ true) ∧ maxUnread s i = 0) := by
  by_cases some_attached : ∃ c, c.ring = i ∧ (s.cursor c).attached = true
  · obtain ⟨d, hd, attached⟩ := some_attached
    have least := hd ▸ unread_le_maxUnread attached
    obtain ⟨c, hc, largest⟩ := maxUnread_eq_holding s i
    cases h : (s.cursor c).attached with
    | true => exact .inl ⟨c, hc, h, largest.trans (if_pos h)⟩
    | false =>
      have zero : holding s c = 0 := by simp [holding, h]
      exact .inl ⟨d, hd, attached, by omega⟩
  · refine .inr ⟨fun c mine attached => some_attached ⟨c, mine, attached⟩, ?_⟩
    obtain ⟨c, mine, largest⟩ := maxUnread_eq_holding s i
    rw [largest]
    exact if_neg fun attached => some_attached ⟨c, mine, attached⟩

theorem maxUnread_le_len {s : State} (bound : CursorsBound s) (i : RingId) : maxUnread s i ≤ (s.ring i).len := by
  obtain ⟨c, rfl, attached, largest⟩ | ⟨_, zero⟩ := maxUnread_attained s i
  · rw [largest]
    exact bound c attached
  · omega

/-! ## The claim -/

/-- Settles O37: `appendEntry` and `writeTraffic_eq` give the writes, `entryBack_append_one` and the two lemmas beside
it what they leave retained, and the free space is the length less `maxUnread`. -/
theorem ringWrites : Obligations.RingWrites := by
  unfold Obligations.RingWrites
  intro e s next appended holds r passed lap t
  have writes (i : RingId) : appendEntry i e s = appended i := by cases i <;> rfl
  refine ⟨writes, ?_, fun ok => ?_, fun bound i notTraffic => ?_⟩
  · rw [← writes]
    exact writeTraffic_eq e s
  · have held (i : RingId) : holds i (appendEntry i e s) :=
      ⟨entryBack_append_one ok i e, fun j => entryBack_append_succ ok i e,
        fun k j ne => entryBack_append_other ok i e ne j⟩
    refine ⟨?_, fun i => writes i ▸ held i⟩
    obtain ⟨newest, further, others⟩ := held .traffic
    refine ⟨?_, fun j one lt => ?_, fun k j ne => ?_⟩
    · rw [entryBack_writeTraffic, newest]
    · rw [entryBack_writeTraffic, further j one lt]
    · rw [entryBack_writeTraffic, others k j ne]
  · intro mine
    have within := maxUnread_le_len bound i
    refine ⟨fun c hc => ?_, ?_⟩
    · have := hc.1 ▸ unread_le_maxUnread hc.2
      unfold freeSpace
      omega
    · obtain ⟨c, ring, attached, largest⟩ | ⟨detached, zero⟩ := maxUnread_attained s i
      · refine .inl ⟨c, ⟨ring, attached⟩, ?_⟩
        unfold freeSpace
        omega
      · refine .inr ⟨fun c hc => detached c hc.1 hc.2, ?_⟩
        unfold freeSpace
        omega

end Sys2Proof.Machine
end

section
/-! SUPPORT. What every step keeps of the store, the modes and the engines' slots: a property that looks at nothing
else is kept by every step once the few operations that touch these keep it. The invariants of the store, of the
cursors and of the station go through it. -/

namespace Sys2Proof.Machine

/-- A property of the character store, the mode flags, the held slots and the halt reasons, and the operations of
the model that can disturb one. -/
structure StoreClosed (P : State → Prop) : Prop where
  congr : ∀ {s u : State}, P s → u.store = s.store → u.modes = s.modes → u.printer = s.printer →
    u.punch = s.punch → P u
  printer : ∀ {s : State} (v : Printer), (v.held = s.printer.held ∨ v.held = none) →
    (v.halts.any = true → s.printer.halts.any = true) → P s → P (s.setPrinter v)
  punch : ∀ {s : State} (v : Punch), (v.held = s.punch.held ∨ v.held = none) →
    (v.halts.any = true → s.punch.halts.any = true) → P s → P (s.setPunch v)
  haltPrinter : ∀ {s : State} (set : PrinterHalts → PrinterHalts), P s → P (haltPrinter set s)
  haltPunch : ∀ {s : State} (set : PunchHalts → PunchHalts), P s → P (haltPunch set s)
  printTake : ∀ {s t : State}, doPrintTake s = some t → P s → P t
  punchTake : ∀ {s t : State}, doPunchTake s = some t → P s → P t
  sendTake : ∀ {s t : State} {e : Entry}, takeEntry .xmit s = some (e, t) → P s → P t
  traffic : ∀ {s : State} (e : Entry), entryFits .traffic e = true → P s → P (writeTraffic e s)
  text : ∀ {s : State} (i : RingId) (o : Origin) (xs : List (Code × Plane)), i ≠ .traffic →
    (o = .keyboard ∨ o = .host) → xs.length ≤ freeSpace s i → P s → P (putText i o xs s)
  erase : ∀ {s : State}, 1 ≤ freeSpace s (destination s) → P s →
    P (appendEntry (destination s) (.erase (textOrigin (destination s) .keyboard)) s)
  flags : ∀ {s : State} (v : Modes), v.station = s.modes.station → v.source = s.modes.source → P s →
    P (s.setModes v)
  station : ∀ {s : State} (m : StationMode), P s → P (changeStation m s)
  source : ∀ {s : State} (m : PunchSource), P s → P (changeSource m s)
  divert : ∀ {s : State}, P s → P (divertPunch s)
  read : ∀ {s : State} (c : CursorId) (count : Nat), (c = .hostT ∨ c = .hostL) → P s → P (afterTake c count s)
  move : ∀ {s : State} (c : CursorId) (delta : Int), P s → P (moveCursor c delta s)
  attach : ∀ {s : State} (c : CursorId), (c = .hostT ∨ c = .hostL) → P s → P (attachCursor c s)
  detach : ∀ {s : State} (c : CursorId), (c = .hostT ∨ c = .hostL) → P s → P (detachHost c s)
  cancel : ∀ {s : State}, P s → P (cancelText s)
  layout : ∀ {s : State} (tb tl sb sl lb ll : Nat), layoutReady s = true → layoutOk tb tl sb sl lb ll = true → P s →
    P (layOut tb tl sb sl lb ll s)
  restart : ∀ {s : State}, P s → P (restartAll s)
  power : ∀ {s : State} (rate : Bool), P (powerOn rate s)

/-- A host cursor is HOST-T or HOST-L (R19, R22). -/
theorem hostCursor_cases {b : Byte} {c : CursorId} (h : hostCursor b = some c) : c = .hostT ∨ c = .hostL := by
  unfold hostCursor at h
  split at h
  · exact .inl (Option.some.inj h).symm
  · split at h
    · exact .inr (Option.some.inj h).symm
    · cases h

/-- No host write goes into TRAFFIC (R196). -/
theorem ringOf_ne_traffic {b : Byte} {i : RingId} (d : ringOf b = some i) : i ≠ .traffic := by
  unfold ringOf at d
  rintro rfl
  split at d
  · cases d
  · split at d <;> cases d

/-! ## What the printer's and the punch's operations leave in their slots -/

theorem loadIdle_eq (s : State) : loadIdle s = { s with motor := (loadIdle s).motor } := by
  unfold loadIdle
  split <;> rfl

/-- An action of the printer leaves the slot and the halt reasons. -/
theorem beginAction_slot (a : PrintAction) (s : State) :
    (beginAction a s).printer.held = s.printer.held ∧ (beginAction a s).printer.halts = s.printer.halts := by
  have feeds (n : Nat) (u : State) :
      (beginFeeds n u).printer.held = u.printer.held ∧ (beginFeeds n u).printer.halts = u.printer.halts := by
    cases n <;> simp [beginFeeds]
  have marker (u : State) :
      (markerReturn u).printer.held = u.printer.held ∧ (markerReturn u).printer.halts = u.printer.halts := by
    unfold markerReturn
    split <;> simp [beginReturn]
  cases a <;> simp only [beginAction, beginStrike, beginReturn, beginAdvance] <;>
    (try split) <;> simp [feeds, marker]

/-- A cycle or an erase leaves the slot and the halt reasons. -/
theorem beginWork_slot (steps : List PunchStep) (s : State) :
    (beginWork steps s).punch.held = s.punch.held ∧ (beginWork steps s).punch.halts = s.punch.halts := by
  unfold beginWork
  split <;> simp

theorem punchEntry_slot (e : Entry) (s : State) :
    (punchEntry e s).punch.held = s.punch.held ∧ (punchEntry e s).punch.halts = s.punch.halts := by
  simp only [punchEntry, beginCharacter, beginErase]
  repeat' split
  all_goals simp [beginWork_slot, addFeeds]

namespace StoreClosed

variable {P : State → Prop} (closed : StoreClosed P)
include closed

theorem inert : Inert P where
  now _ _ h := closed.congr h rfl rfl rfl rfl
  ticket _ _ h := closed.congr h rfl rfl rfl rfl
  pending _ _ h := closed.congr h rfl rfl rfl rfl
  ahead _ _ h := closed.congr h rfl rfl rfl rfl
  link _ _ h := closed.congr h rfl rfl rfl rfl
  events _ _ h := closed.congr h rfl rfl rfl rfl
  sense _ _ h := closed.congr h rfl rfl rfl rfl

/-- Besides the fields of no account, the slot of the printer may have been emptied or left. -/
theorem printerStep {s u : State} (h : P s) (store : u.store = s.store) (modes : u.modes = s.modes)
    (punch : u.punch = s.punch) (held : u.printer.held = s.printer.held ∨ u.printer.held = none)
    (halts : u.printer.halts.any = true → s.printer.halts.any = true) : P u :=
  closed.congr (closed.printer u.printer held halts h) store modes rfl punch

theorem punchStep {s u : State} (h : P s) (store : u.store = s.store) (modes : u.modes = s.modes)
    (printer : u.printer = s.printer) (held : u.punch.held = s.punch.held ∨ u.punch.held = none)
    (halts : u.punch.halts.any = true → s.punch.halts.any = true) : P u :=
  closed.congr (closed.punch u.punch held halts h) store modes printer rfl

/-! ### The markers and the calls -/

theorem closeMarker {s : State} (h : P s) : P (closeMarker s) := by
  unfold Machine.closeMarker
  split
  · exact closed.congr (closed.traffic .clear rfl h) rfl rfl rfl rfl
  · exact h

theorem openMarker {s : State} (h : P s) : P (openMarker s) := by
  unfold Machine.openMarker
  split
  · exact h
  · exact closed.congr (closed.traffic .connect rfl h) rfl rfl rfl rfl

theorem enterFree {s : State} (h : P s) : P (enterFree s) := by
  simp only [Machine.enterFree]
  split
  · exact closed.congr (closed.closeMarker h) rfl rfl rfl rfl
  · exact closed.congr h rfl rfl rfl rfl

theorem freed {s : State} (cause : Byte) (h : P s) : P (raiseCleared cause (Machine.enterFree s)) :=
  closed.inert.raise _ _ (closed.enterFree h)

theorem enterCall {s : State} (kind : CallKind) (accepted : Bool) (h : P s) : P (enterCall kind accepted s) := by
  have kindSet (u : State) (hu : P u) : P (u.setController { u.controller with callKind := some kind }) :=
    closed.congr hu rfl rfl rfl rfl
  have planes (u : State) (hu : P u) : P (lettersPlanes (Machine.openMarker u)) :=
    closed.congr (closed.openMarker hu) (by simp) (by simp) (by simp) (by simp)
  have ends (u : State) (hu : P u) : P (if accepted = true then enterWaking u else enterRefusing u) := by
    split
    · exact closed.congr hu (by simp) (by simp) (by simp) (by simp)
    · exact closed.congr hu (by simp) (by simp) (by simp) (by simp)
  unfold Machine.enterCall
  refine ends _ (planes _ ?_)
  split
  · exact closed.station _ (kindSet s h)
  · exact kindSet s h

/-! ### Keystrokes -/

theorem putChar {s t : State} {i : RingId} {o : Origin} {need : Option Plane} {c : Code} (notTraffic : i ≠ .traffic)
    (origin : o = .keyboard ∨ o = .host) (d : putChar i o need c s = some t) (h : P s) : P t := by
  simp only [Machine.putChar] at d
  split at d <;> cases d
  next fits => exact closed.text i o _ notTraffic origin fits h

theorem strikeCode {s : State} (c : Code) (need : Option Plane) (h : P s) : P (strikeCode c need s) := by
  unfold Machine.strikeCode
  split
  · exact h
  · split
    · next written =>
      refine closed.putChar ?_ (.inl rfl) written h
      unfold destination
      split <;> exact nofun
    · exact closed.congr h (by simp) (by simp) (by simp) (by simp)

theorem strikeErase {s : State} (h : P s) : P (strikeErase s) := by
  unfold Machine.strikeErase
  split
  · exact h
  · split
    · next room => exact closed.erase room h
    · exact closed.congr h (by simp) (by simp) (by simp) (by simp)

theorem strikeKey {s : State} (k : Fin 64) (h : P s) : P (strikeKey k s) := by
  unfold Machine.strikeKey
  split
  · exact closed.strikeCode _ _ h
  · exact closed.strikeErase h
  · exact h

theorem hereIsLocal {s : State} (h : P s) : P (hereIsLocal s) := by
  have length (p : Plane) (cs : List Code) : (plainText s p cs).length = cs.length := by
    induction cs generalizing p with
    | nil => rfl
    | cons c cs ih => simp [plainText, ih]
  unfold Machine.hereIsLocal
  split
  · exact h
  · split
    · next room => exact closed.text .loc .keyboard _ nofun (.inl rfl) (by rwa [length]) h
    · exact closed.congr h (by simp) (by simp) (by simp) (by simp)

theorem pressKey {s : State} (k : Fin 64) (h : P s) : P (pressKey k s) := by
  have down : P (setKey k .down s) := closed.congr h rfl rfl rfl rfl
  simp only [Machine.pressKey]
  split
  · exact down
  · split
    · exact closed.strikeCode _ _ down
    · exact closed.congr h rfl rfl rfl rfl
  · unfold pressHereIs
    split
    · exact closed.hereIsLocal down
    · refine closed.congr down ?_ ?_ ?_ ?_ <;> split <;> simp
  · exact down
  · exact closed.strikeErase down
  · unfold pressBreak
    refine closed.congr down ?_ ?_ ?_ ?_ <;> split <;> simp
  · exact closed.punchStep (s := setKey k .down s) down rfl rfl rfl (.inl rfl) id
  · exact closed.station _ down

theorem readKeyNow {s : State} (k : Fin 64) (c : Bool) (h : P s) : P (readKeyNow k c s) := by
  have updated (u : State) (hu : P u) : P (updateRepeat u) :=
    closed.congr hu (by simp) (by simp) (by simp) (by simp)
  simp only [Machine.readKeyNow]
  refine updated _ ?_
  split
  · exact closed.congr h rfl rfl rfl rfl
  · exact closed.pressKey k (closed.congr h rfl rfl rfl rfl)
  · exact closed.congr h rfl rfl rfl rfl

/-! ### The engines -/

theorem beginHeld {s t : State} (d : beginHeld s = some t) (h : P s) : P t := by
  rw [beginHeld_frame d]
  simp only [Machine.beginHeld] at d
  split at d
  · cases d
  · next a _ =>
    split at d <;> cases d
    refine closed.printerStep h rfl rfl rfl (.inr rfl) ?_
    show (beginAction a s).printer.halts.any = true → _
    rw [(beginAction_slot a s).2]
    exact id

theorem printGoesOn {s : State} (h : P s) : P (printGoesOn s) :=
  printRun_keeps P (fun _ _ => closed.printTake)
    (fun u hu => by rw [ringAtOnce_frame]; exact closed.congr hu rfl rfl rfl rfl)
    (fun _ _ => closed.beginHeld) _ s h

theorem beginPunchHeld {s t : State} (d : beginPunchHeld s = some t) (h : P s) : P t := by
  rw [beginPunchHeld_frame d]
  simp only [Machine.beginPunchHeld] at d
  split at d
  · cases d
  · next held _ =>
    split at d <;> cases d
    have slot := punchEntry_slot held.entry (s.setPunch { s.punch with held := none })
    exact closed.punchStep h rfl rfl rfl (.inr slot.1) (by simp only [slot.2]; exact id)

theorem punchGoesOn {s : State} (h : P s) : P (punchGoesOn s) :=
  punchRun_keeps P (fun _ _ => closed.punchTake) (fun _ _ => closed.beginPunchHeld) _ s h

theorem carriageHomeCheck {s : State} (h : P s) : P (carriageHomeCheck s) := by
  unfold Machine.carriageHomeCheck
  split
  · exact closed.printer _ (.inl rfl) id h
  · exact closed.inert.raise _ _ (closed.haltPrinter _ (closed.printer _ (.inl rfl) id h))

/-! ### The motor and the sense inputs -/

theorem enterRunning {s : State} (h : P s) : P (enterRunning s) := by
  have resumed (u : State) (hu : P u) : P (resumePunchStep u) := by
    unfold resumePunchStep
    split
    · exact closed.punchStep (s := u) hu (by simp) (by simp) (by simp) (.inl (by simp)) (by simp)
    · exact hu
  have established (u : State) (hu : P u) : P (if u.controller.state = .waking then enterEstablished u else u) := by
    split
    · exact closed.congr hu (by simp) (by simp) (by simp) (by simp)
    · exact hu
  exact established _ (resumed _ (closed.congr h (by simp) (by simp) (by simp) (by simp)))

theorem beginRunup {s : State} (h : P s) : P (beginRunup s) := by
  simp only [Machine.beginRunup]
  split
  · exact closed.enterRunning (closed.congr h rfl rfl rfl rfl)
  · exact closed.congr h rfl rfl rfl rfl

theorem enterFault {s : State} (h : P s) : P (enterFault s) := by
  have unsure : P (s.setPrinter { s.printer with unsure := true }) := closed.printer _ (.inl rfl) id h
  simp only [Machine.enterFault]
  split
  · exact closed.congr unsure (by simp) (by simp) (by simp) (by simp)
  · exact closed.congr unsure rfl rfl rfl rfl

theorem senseAsserted {s : State} (k : Fin 6) (h : P s) : P (senseAsserted k s) := by
  unfold Machine.senseAsserted
  split
  · have halted := closed.inert.raise evPaperOut none (closed.haltPrinter (fun h => { h with paper := true }) h)
    simp only [paperOutSet]
    refine closed.divert ?_
    split
    · exact closed.congr halted rfl rfl rfl rfl
    · exact halted
  · split
    · exact closed.inert.raise _ _ h
    · split
      · exact closed.inert.raise _ _ (closed.punch _ (.inl rfl) id (closed.haltPunch _ h))
      · split
        · unfold motorReadySet
          split
          · exact closed.enterRunning h
          · exact h
        · split
          · exact closed.haltPunch _ (closed.haltPrinter _ h)
          · exact h

theorem senseReleased {s : State} (k : Fin 6) (h : P s) : P (senseReleased k s) := by
  unfold Machine.senseReleased
  split
  · exact closed.printer _ (.inl rfl) (by simp [PrinterHalts.any]; tauto) h
  · split
    · exact closed.punch _ (.inl rfl) (by simp [PunchHalts.any]; tauto) h
    · split
      · unfold motorReadyLost
        split
        · exact closed.enterFault h
        · exact h
      · split
        · exact closed.punch _ (.inl rfl) (by simp [PunchHalts.any]; tauto)
            (closed.printer _ (.inl rfl) (by simp [PrinterHalts.any]; tauto) h)
        · exact h

theorem doDebounced {k : Fin 6} {s t : State} (d : doDebounced k s = some t) (h : P s) : P t := by
  simp only [Machine.doDebounced, debounceTo] at d
  split at d <;> cases d
  have told (u : State) (hu : P u) (i : SenseInput) : P (raiseSenseChange (setInput k i u)) :=
    closed.inert.raiseSenseChange (closed.congr hu rfl rfl rfl rfl)
  split
  · exact closed.senseAsserted k (told _ (closed.inert.upTo _ h) _)
  · exact closed.senseReleased k (told _ (closed.inert.upTo _ h) _)

/-! ### The line -/

theorem completeCharacter {s : State} (a : Assembly) (h : P s) : P (completeCharacter a s) := by
  have rest (q : Quality) (early late : Nat) (p : Plane) (u : State) (hu : P u) :
      P (loadIdle (countCharacter q early late (wruLookup a.own q p a.code (echoResult a.own q u)))) := by
    rw [loadIdle_eq, countCharacter_frame, wruLookup_frame, echoResult_frame]
    exact closed.congr hu rfl rfl rfl rfl
  refine rest _ _ _ _ _ (closed.traffic _ ?_ (closed.congr h rfl rfl rfl rfl))
  cases a.own <;> rfl

theorem beginFromSend {s t : State} (d : beginFromSend s = some t) (h : P s) : P t := by
  simp only [Machine.beginFromSend] at d
  split at d
  · cases d
  · split at d
    · cases d; exact closed.congr h rfl rfl rfl rfl
    · split at d
      · next taken =>
        cases d
        rw [sendEmptyCheck_frame, followStream_frame]
        exact closed.congr (closed.sendTake taken h) rfl rfl rfl rfl
      · cases d

theorem doCharacterBegin {s t : State} (d : doCharacterBegin s = some t) (h : P s) : P t := by
  simp only [Machine.doCharacterBegin] at d
  split at d
  · split at d <;> cases d
    all_goals exact closed.congr h rfl rfl rfl rfl
  · split at d <;> cases d
    exact closed.congr h rfl rfl rfl rfl
  · exact closed.beginFromSend d h
  · cases d

theorem doClear {s : State} (h : P s) : P (doClear s).2 := by
  simp only [Machine.doClear, lineReply, refuseLine, refuse]
  split
  · exact h
  · exact closed.freed _ h
  · exact closed.congr h (by simp [stopCallTimers]) (by simp [stopCallTimers]) (by simp [stopCallTimers])
      (by simp [stopCallTimers])
  all_goals first | exact h | exact closed.congr h (by simp) (by simp) (by simp) (by simp)

/-! ### Host writes -/

theorem writeHostText {s : State} {i : RingId} (notTraffic : i ≠ .traffic) (hs : List Byte) (a k : Nat) (h : P s) :
    P (writeHostText i hs a k s).state := by
  induction hs generalizing a k s with
  | nil => exact h
  | cons b rest ih =>
    simp only [Machine.writeHostText]
    split
    · exact ih _ _ h
    · split
      · exact h
      · next written => exact ih _ _ (closed.putChar notTraffic (.inr rfl) written h)

theorem writeHostCodes {s : State} {i : RingId} (notTraffic : i ≠ .traffic) (bs : List Byte) (a : Nat) (h : P s) :
    P (writeHostCodes i bs a s).state := by
  induction bs generalizing a s with
  | nil => exact h
  | cons b rest ih =>
    simp only [Machine.writeHostCodes]
    split
    · exact h
    · next written => exact ih _ (closed.putChar notTraffic (.inr rfl) written h)

/-! ### Every step -/

theorem records {k : Byte} {s t : State} (h : P s) (effect : Effect s k t) : P t := by
  cases effect with
  | none => exact h
  | lineSetup p => rw [doLineSetup_frame]; exact closed.congr h rfl rfl rfl rfl
  | printerSetup p =>
    rw [doPrinterSetup_frame]
    have slot : (doPrinterSetup p s).2.printer.held = s.printer.held
        ∧ (doPrinterSetup p s).2.printer.halts = s.printer.halts := by
      simp only [doPrinterSetup, putPrinterSetup]
      repeat' split
      all_goals exact ⟨rfl, rfl⟩
    exact closed.printerStep h rfl rfl rfl (.inl slot.1) (by simp only [slot.2]; exact id)
  | keyboardSetup p => rw [doKeyboardSetup_frame]; exact closed.congr h rfl rfl rfl rfl
  | punchSetup p => rw [doPunchSetup_frame]; exact closed.congr h rfl rfl rfl rfl
  | motorAndBellSetup p => rw [doMotorAndBellSetup_frame]; exact closed.congr h rfl rfl rfl rfl
  | ringLayout p =>
    simp only [doRingLayout]
    split
    · split
      · exact h
      · split
        · exact h
        · next ready fits => exact closed.layout _ _ _ _ _ _ (by simpa using ready) (by simpa using fits) h
    · exact h
  | loadCodes p => rw [doLoadCodes_frame]; exact closed.congr h rfl rfl rfl rfl
  | loadKeys p => rw [doLoadKeys_frame]; exact closed.congr h rfl rfl rfl rfl
  | loadAnswerBack p => rw [doLoadAnswerBack_frame]; exact closed.congr h rfl rfl rfl rfl
  | loadRefusalText p => rw [doLoadRefusalText_frame]; exact closed.congr h rfl rfl rfl rfl
  | setMode p =>
    simp only [doSetMode]
    split
    · split
      · exact h
      · exact closed.source _ (closed.station _ (closed.flags _ rfl rfl h))
    · exact h
  | answer =>
    simp only [doAnswer]
    split
    · exact closed.enterCall _ _ h
    · exact h
  | originate => rw [doOriginate_frame]; exact closed.congr h rfl rfl rfl rfl
  | clear => exact closed.doClear h
  | breakSend => rw [doBreak_frame]; exact closed.congr h rfl rfl rfl rfl
  | hereIs => rw [doHereIs_frame]; exact closed.congr h rfl rfl rfl rfl
  | haltSend => rw [doHaltSend_frame]; exact closed.congr h rfl rfl rfl rfl
  | resumeSend => rw [doResumeSend_frame]; exact closed.congr h rfl rfl rfl rfl
  | cancelSend => exact closed.cancel h
  | printerStop => exact closed.haltPrinter (fun h => { h with host := true }) h
  | printerResume => exact closed.printer _ (.inl rfl) (by simp [PrinterHalts.any]; tauto) h
  | punchStop => exact closed.haltPunch (fun h => { h with host := true }) h
  | punchResume => exact closed.punch _ (.inl rfl) (by simp [PunchHalts.any]; tauto) h
  | punchFeed n =>
    simp only [doPunchFeed]
    split
    · exact h
    · exact closed.punch _ (.inl rfl) id h
  | motorRestart =>
    simp only [doMotorRestart, restartMotor]
    split
    · split
      · exact closed.beginRunup (closed.congr h rfl rfl rfl rfl)
      · exact closed.congr h rfl rfl rfl rfl
    · exact h
  | writeText p =>
    simp only [doWriteText]
    repeat' split
    all_goals first | exact h | skip
    next ring => exact closed.writeHostText (ringOf_ne_traffic ring) _ _ _ h
  | writeCodes p =>
    simp only [doWriteCodes]
    repeat' split
    all_goals first | exact h | skip
    next ring _ => exact closed.writeHostCodes (ringOf_ne_traffic ring) _ _ h
  | readTake c n =>
    simp only [doReadTake]
    repeat' split
    all_goals first | exact h | skip
    next host _ _ => exact closed.read _ _ (hostCursor_cases host) h
  | moveReader c delta =>
    simp only [doMoveReader]
    repeat' split
    all_goals first | exact h | exact closed.move _ _ h
  | attach c =>
    simp only [doAttach]
    split
    · exact h
    · next host => exact closed.attach _ (hostCursor_cases host) h
  | detach c =>
    simp only [doDetach]
    split
    · exact h
    · next host => exact closed.detach _ (hostCursor_cases host) h
  | statistics =>
    have printer := closed.printer { s.printer with strikes := 0 } (.inl rfl) id h
    exact closed.punchStep printer rfl rfl rfl (.inl rfl) id
  | eventSetup p => rw [doEventSetup_frame]; exact closed.congr h rfl rfl rfl rfl
  | eventClear p => rw [doEventClear_frame]; exact closed.congr h rfl rfl rfl rfl
  | restart => exact closed.restart h

theorem own {i : Instr} {f : State → Option State} {s t : State} (row : ownDo i = some f) (h : P s)
    (d : f s = some t) : P t := by
  cases i <;> cases row
  case interByteGapExpiry => exact closed.inert.doGapExpiry h d
  case recordOverrun => exact closed.inert.doOverrun h d
  case outgoingRecordEnd => exact closed.inert.doRecordEnd h d
  case sensePinChange => exact closed.inert.doSensePin h d
  case unitSample => rw [doUnitSample_frame d]; exact closed.congr h rfl rfl rfl rfl
  case falseStart => rw [doFalseStart_frame d]; exact closed.congr h rfl rfl rfl rfl
  case characterCompletion =>
    simp only [doCharacterCompletion] at d
    split at d
    · cases d
    · next a u sampled =>
      split at d <;> cases d
      refine closed.completeCharacter a ?_
      rw [atSample_frame sampled]
      exact closed.congr h rfl rfl rfl rfl
  case claimWithdrawn => rw [doClaimWithdrawn_frame d]; exact closed.congr h rfl rfl rfl rfl
  case breakThresholdReached => rw [doBreakThreshold_frame d]; exact closed.congr h rfl rfl rfl rfl
  case clearThresholdReached =>
    simp only [doClearThreshold, clearReport] at d
    split at d
    · cases d
    · split at d <;> cases d
      split
      all_goals first
        | exact closed.freed _ (closed.congr h rfl rfl rfl rfl)
        | exact closed.congr h rfl rfl rfl rfl
  case callConfirmed =>
    simp only [doCallConfirmed] at d
    split at d
    · split at d <;> cases d
      simp only [confirmCall]
      split
      · exact closed.enterCall _ _ (closed.congr h rfl rfl rfl rfl)
      · split
        · exact closed.enterCall _ _ (closed.congr h rfl rfl rfl rfl)
        · exact closed.congr h rfl rfl rfl rfl
    · cases d
  case originateTimeout =>
    simp only [doOriginateTimeout] at d
    split at d
    · split at d <;> cases d
      · exact closed.freed _ (closed.congr h rfl rfl rfl rfl)
      · exact closed.congr h rfl rfl rfl rfl
    · cases d
  case clearTimerExpiry =>
    simp only [doClearTimerExpiry] at d
    split at d <;> cases d
    exact closed.freed _ (closed.congr h rfl rfl rfl rfl)
  case characterBegin => exact closed.doCharacterBegin d h
  case characterEnd => rw [doCharacterEnd_frame d]; exact closed.congr h rfl rfl rfl rfl
  case breakBegin => rw [doBreakBegin_frame d]; exact closed.congr h rfl rfl rfl rfl
  case breakEnd => rw [doBreakEnd_frame d]; exact closed.congr h rfl rfl rfl rfl
  case repeatTimerExpiry =>
    simp only [doRepeat] at d
    split at d <;> cases d
    exact closed.strikeKey _ (closed.congr h rfl rfl rfl rfl)
  case printTake => exact closed.printTake d h
  case wheelTravelBegin =>
    rw [doWheelTravel_frame d]
    simp only [doWheelTravel] at d
    repeat' split at d
    all_goals cases d
    exact closed.printerStep h rfl rfl rfl (.inl (by simp)) (by simp)
  case printActionBegin =>
    obtain ⟨u, begun, rfl⟩ := Option.map_eq_some_iff.1 d
    exact closed.printGoesOn (closed.beginHeld begun h)
  case implicitNewlineBegin =>
    rw [doImplicitNewline_frame d]
    simp only [doImplicitNewline] at d
    repeat' split at d
    all_goals cases d
    exact closed.printerStep h rfl rfl rfl (.inl (by simp [beginFeeds, beginReturn]))
      (by simp [beginFeeds, beginReturn])
  case implicitReturnBegin =>
    rw [doImplicitReturn_frame d]
    simp only [doImplicitReturn] at d
    repeat' split at d
    all_goals cases d
    exact closed.printerStep h rfl rfl rfl (.inl (by simp [beginReturn])) (by simp [beginReturn])
  case wheelStepEnd =>
    rw [doWheelStep_frame d]
    simp only [doWheelStep] at d
    split at d <;> cases d
    exact closed.printerStep h rfl rfl rfl (.inl (by simp)) (by simp)
  case strikeComplete =>
    rw [doStrikeComplete_frame d]
    simp only [doStrikeComplete, beginAdvance] at d
    repeat' split at d
    all_goals cases d
    all_goals exact closed.printerStep h rfl rfl rfl (.inl (by simp)) (by simp)
  case advanceComplete =>
    rw [doAdvanceComplete_frame d]
    simp only [doAdvanceComplete] at d
    repeat' split at d
    all_goals cases d
    all_goals exact closed.printerStep h rfl rfl rfl (.inl (by simp)) (by simp)
  case returnComplete =>
    simp only [doReturnComplete] at d
    split at d <;> cases d
    refine closed.carriageHomeCheck ?_
    rw [putWaitingWidth_frame]
    have slot : ∀ u : State, (putWaitingWidth u).printer.held = u.printer.held
        ∧ (putWaitingWidth u).printer.halts = u.printer.halts := by
      intro u
      unfold putWaitingWidth
      split <;> exact ⟨rfl, rfl⟩
    exact closed.printerStep h rfl rfl rfl (.inl (by simp [slot])) (by simp [slot])
  case lineFeedComplete =>
    rw [doLineFeedComplete_frame d]
    simp only [doLineFeedComplete, beginFeeds] at d
    repeat' split at d
    all_goals cases d
    all_goals exact closed.printerStep h rfl rfl rfl (.inl (by simp)) (by simp)
  case punchTake => exact closed.punchTake d h
  case blankCycleBegin =>
    rw [doBlankCycle_frame d]
    simp only [doBlankCycle, beginWork] at d
    split at d <;> cases d
    exact closed.punchStep h rfl rfl rfl (.inl (by simp)) (by simp)
  case punchActionBegin =>
    obtain ⟨u, begun, rfl⟩ := Option.map_eq_some_iff.1 d
    exact closed.punchGoesOn (closed.beginPunchHeld begun h)
  case punchStepComplete =>
    rw [doPunchStep_frame d]
    simp only [doPunchStep, beginWork] at d
    repeat' split at d
    all_goals cases d
    all_goals exact closed.punchStep h rfl rfl rfl (.inl (by simp [addFeeds])) (by simp [addFeeds])
  case motorRunupStart =>
    simp only [doRunupStart] at d
    split at d <;> cases d
    exact closed.beginRunup h
  case runupTimeout =>
    simp only [doRunupTimeout] at d
    repeat' split at d
    all_goals cases d
    exact closed.enterFault (closed.inert.upTo _ h)
  case idleCountdownExpiry => rw [doIdleExpiry_frame d]; exact closed.congr h rfl rfl rfl rfl
  case senseDebouncedChange => exact closed.doDebounced d h
  case ringBegin => rw [doRingBegin_frame d]; exact closed.congr h rfl rfl rfl rfl
  case ringEnd => rw [doRingEnd_frame d]; exact closed.congr h rfl rfl rfl rfl
  case gapEnd => rw [doGapEnd_frame d]; exact closed.congr h rfl rfl rfl rfl

theorem step_keeps {s t : State} (h : P s) (d : step s = .next t) : P t :=
  closed.inert.step_keeps (fun rate _ _ => closed.power rate) (fun _ _ _ => closed.records)
    (fun _ _ _ h d => by rw [doMarkToSpace_frame d]; exact closed.congr h rfl rfl rfl rfl)
    (fun _ _ _ h d => by rw [doSpaceToMark_frame d]; exact closed.congr h rfl rfl rfl rfl)
    (fun k c _ => closed.readKeyNow k c) (fun _ _ _ _ => closed.own) h d

end StoreClosed

end Sys2Proof.Machine
end

section
/-! Every step keeps the character store in order (R1 to R5): the operations that move cursors leave cells and rings
alone, the writes are those of `StoreOk.appendEntry`, and a reset ring retains nothing. The claim O55. -/

namespace Sys2Proof.Machine

/-! ## Operations that move cursors leave cells and rings -/

/-- Cells and rings are as they were. -/
def SameCells (s t : State) : Prop := t.store.cells = s.store.cells ∧ t.store.rings = s.store.rings

theorem SameCells.refl (s : State) : SameCells s s := ⟨rfl, rfl⟩

theorem SameCells.trans {s t u : State} (h : SameCells s t) (k : SameCells t u) : SameCells s u :=
  ⟨k.1.trans h.1, k.2.trans h.2⟩

theorem SameCells.of_store {s t : State} (h : t.store = s.store) : SameCells s t := by
  rw [SameCells, h]
  exact ⟨rfl, rfl⟩

theorem SameCells.ring {s t : State} (h : SameCells s t) (i : RingId) : t.ring i = s.ring i := by
  rw [State.ring, h.2]
  rfl

theorem SameCells.storeOk {s t : State} (h : SameCells s t) (ok : StoreOk s) : StoreOk t :=
  (storeOk_congr h.1 h.2).2 ok

theorem sameCells_returnEntry (h : Held) (s : State) : SameCells s (returnEntry h s) := by
  unfold returnEntry
  repeat' split
  all_goals exact ⟨rfl, rfl⟩

theorem sameCells_attachCursor (c : CursorId) (s : State) : SameCells s (attachCursor c s) := by
  simp only [attachCursor]
  repeat' split
  all_goals exact ⟨rfl, rfl⟩

theorem sameCells_testLockOn (i : RingId) (s : State) : SameCells s (testLockOn i s) :=
  .of_store (by simp)

theorem sameCells_returnPrinterHeld (s : State) : SameCells s (returnPrinterHeld s) := by
  unfold returnPrinterHeld
  split
  · exact .refl s
  · exact sameCells_returnEntry _ s

theorem sameCells_returnPunchHeld (s : State) : SameCells s (returnPunchHeld s) := by
  unfold returnPunchHeld
  split
  · exact .refl s
  · exact sameCells_returnEntry _ s

theorem sameCells_haltPrinter (set : PrinterHalts → PrinterHalts) (s : State) :
    SameCells s (haltPrinter set s) := by
  unfold haltPrinter
  split
  · exact ⟨rfl, rfl⟩
  · exact sameCells_returnPrinterHeld s

theorem sameCells_haltPunch (set : PunchHalts → PunchHalts) (s : State) : SameCells s (haltPunch set s) := by
  unfold haltPunch
  split
  · exact ⟨rfl, rfl⟩
  · exact sameCells_returnPunchHeld s

theorem sameCells_changeStation (m : StationMode) (s : State) : SameCells s (changeStation m s) := by
  simp only [changeStation]
  split
  · exact .refl s
  · have returned := sameCells_returnPrinterHeld s
    have left : SameCells (returnPrinterHeld s) (detachCursor s.modes.station.cursor (returnPrinterHeld s)) :=
      ⟨rfl, rfl⟩
    have joined := sameCells_attachCursor m.cursor (detachCursor s.modes.station.cursor (returnPrinterHeld s))
    exact ((returned.trans left).trans joined).trans (.of_store (by simp))

theorem sameCells_leaveSource (c : Option CursorId) (s : State) : SameCells s (leaveSource c s) := by
  unfold leaveSource
  split
  · exact .refl s
  · exact SameCells.trans ⟨rfl, rfl⟩ (sameCells_testLockOn _ _)

theorem sameCells_joinSource (c : Option CursorId) (s : State) : SameCells s (joinSource c s) := by
  unfold joinSource
  split
  · exact .refl s
  · exact sameCells_attachCursor _ s

theorem sameCells_changeSource (m : PunchSource) (s : State) : SameCells s (changeSource m s) := by
  simp only [changeSource]
  split
  · exact .refl s
  · have left := (sameCells_returnPunchHeld s).trans (sameCells_leaveSource s.modes.source.cursor _)
    have joined := left.trans (sameCells_joinSource m.cursor _)
    exact joined.trans (.of_store rfl)

theorem sameCells_divertPunch (s : State) : SameCells s (divertPunch s) := by
  simp only [divertPunch]
  split
  · exact ⟨(sameCells_attachCursor .punchT _).1, (sameCells_attachCursor .punchT _).2⟩
  · exact .refl s

theorem sameCells_takeEntry {c : CursorId} {s t : State} {e : Entry} (h : takeEntry c s = some (e, t)) :
    SameCells s t := by
  rw [(takeEntry_eq h).2]
  exact SameCells.trans ⟨rfl, rfl⟩ (sameCells_testLockOn _ _)

theorem sameCells_doPrintTake {s t : State} (h : doPrintTake s = some t) : SameCells s t := by
  simp only [doPrintTake] at h
  repeat' split at h
  all_goals cases h
  next taken => exact (sameCells_takeEntry taken).trans ⟨rfl, rfl⟩

theorem sameCells_takeForPunch (n : Nat) (c : CursorId) (s : State) : SameCells s (takeForPunch n c s) := by
  induction n generalizing s with
  | zero => exact .refl s
  | succ n ih =>
    simp only [takeForPunch]
    split
    · exact .refl s
    · next taken =>
      split
      · exact (sameCells_takeEntry taken).trans (ih _)
      · exact (sameCells_takeEntry taken).trans ⟨rfl, rfl⟩

theorem sameCells_doPunchTake {s t : State} (h : doPunchTake s = some t) : SameCells s t := by
  simp only [doPunchTake] at h
  repeat' split at h
  all_goals cases h
  exact sameCells_takeForPunch _ _ s

theorem sameCells_afterTake (c : CursorId) (count : Nat) (s : State) : SameCells s (afterTake c count s) := by
  simp only [afterTake]
  split
  · exact .refl s
  · exact SameCells.trans ⟨rfl, rfl⟩ (sameCells_testLockOn _ _)

theorem sameCells_moveCursor (c : CursorId) (delta : Int) (s : State) : SameCells s (moveCursor c delta s) := by
  simp only [moveCursor]
  repeat' split
  all_goals first | exact ⟨rfl, rfl⟩ | exact SameCells.trans ⟨rfl, rfl⟩ (sameCells_testLockOn _ _)

theorem sameCells_detachHost (c : CursorId) (s : State) : SameCells s (detachHost c s) := by
  unfold detachHost
  split
  · exact SameCells.trans ⟨rfl, rfl⟩ (sameCells_testLockOn _ _)
  · exact .refl s

theorem sameCells_setWriterPlane (i : RingId) (p : Plane) (s : State) : SameCells s (setWriterPlane i p s) := by
  cases i <;> exact ⟨rfl, rfl⟩

theorem sameCells_cancelText (s : State) : SameCells s (cancelText s) :=
  SameCells.trans ⟨rfl, rfl⟩ (sameCells_testLockOn _ _)

/-! ## Writes and resets -/

/-- Text goes into SEND and LOCAL in the entries that these receive. -/
theorem entryFits_text {i : RingId} {o : Origin} (notTraffic : i ≠ .traffic) (origin : o = .keyboard ∨ o = .host)
    (c : Code) (p : Plane) : entryFits i (.char c p (textOrigin i o) none) = true := by
  cases i with
  | traffic => exact absurd rfl notTraffic
  | send => rfl
  | loc => obtain rfl | rfl := origin <;> rfl

theorem StoreOk.writeTraffic {s : State} (ok : StoreOk s) {e : Entry} (fits : entryFits .traffic e = true) :
    StoreOk (writeTraffic e s) :=
  (storeOk_congr (writeTraffic_cells_rings e s).1 (writeTraffic_cells_rings e s).2).2 (ok.appendEntry _ _ fits)

theorem StoreOk.putText {i : RingId} {o : Origin} (notTraffic : i ≠ .traffic) (origin : o = .keyboard ∨ o = .host)
    (xs : List (Code × Plane)) {s : State} (ok : StoreOk s) : StoreOk (putText i o xs s) := by
  induction xs generalizing s with
  | nil => exact ok
  | cons x xs ih =>
    exact ih ((sameCells_setWriterPlane _ _ _).storeOk (ok.appendEntry _ _ (entryFits_text notTraffic origin _ _)))

/-- A ring just reset, in a place that it may have. -/
theorem Ring.ok_fresh {base len : Nat} (h : 16 ≤ len ∧ len ≤ 2032 ∧ base + len ≤ 2048) : (Ring.fresh base len).ok := by
  obtain ⟨h1, h2, h3⟩ := h
  refine ⟨h1, h2, h3, ?_, ?_, ?_, ?_⟩ <;> simp only [Ring.fresh] <;> simp <;> omega

/-- A store whose rings have just been reset is in order where the rings have places that they may have. -/
theorem storeOk_of_fresh {s : State} (base len : RingId → Nat) (cells : s.store.cells = [])
    (fresh : ∀ i, s.ring i = Ring.fresh (base i) (len i))
    (places : ∀ i, 16 ≤ len i ∧ len i ≤ 2032 ∧ base i + len i ≤ 2048)
    (apart : ∀ i j, i ≠ j → (Ring.fresh (base i) (len i)).apart (Ring.fresh (base j) (len j))) : StoreOk s := by
  refine (storeOk_iff s).2 ⟨by rw [cells]; rfl, fun i => ?_, fun i j ne => ?_, fun i j one le => ?_⟩
  · rw [fresh]
    exact Ring.ok_fresh (places i)
  · rw [fresh, fresh]
    exact apart i j ne
  · rw [fresh] at le
    exact absurd (Nat.le_trans one le) (by simp [Ring.retained, Ring.fresh])

theorem StoreOk.resetRings {s : State} (ok : StoreOk s) : StoreOk (resetRings s) := by
  obtain ⟨_, rings, apart, _⟩ := (storeOk_iff s).1 ok
  have store : (Machine.resetRings s).store = s.store.rewound := by simp [Machine.resetRings]
  refine (storeOk_of_store (s := s.setStore s.store.rewound) store).2
    (storeOk_of_fresh (fun i => (s.ring i).base) (fun i => (s.ring i).len) rfl
      (fun i => Store.get_rewound_rings s.store i) (fun i => ?_) apart)
  obtain ⟨h1, h2, h3, _⟩ := rings i
  exact ⟨h1, h2, h3⟩

theorem StoreOk.restartAll {s : State} (ok : StoreOk s) : StoreOk (restartAll s) := by
  refine (storeOk_of_store ?_).2 ok.resetRings
  simp only [Machine.restartAll, restartEvents, restartPunch, restartPrinter, restartKeyboard, restartReceiver,
    restartLine]
  split <;> simp

theorem StoreOk.layOut {tb tl sb sl lb ll : Nat} (fits : layoutOk tb tl sb sl lb ll = true) (s : State) :
    StoreOk (layOut tb tl sb sl lb ll s) := by
  obtain ⟨base, rfl, rfl, rfl⟩ : ∃ base : RingId → Nat, tb = base .traffic ∧ sb = base .send ∧ lb = base .loc :=
    ⟨fun | .traffic => tb | .send => sb | .loc => lb, rfl, rfl, rfl⟩
  obtain ⟨len, rfl, rfl, rfl⟩ : ∃ len : RingId → Nat, tl = len .traffic ∧ sl = len .send ∧ ll = len .loc :=
    ⟨fun | .traffic => tl | .send => sl | .loc => ll, rfl, rfl, rfl⟩
  obtain ⟨places, disjoint⟩ := (layoutOk_iff base len).1 fits
  rw [layOut_eq base len fun i => (places i).1]
  refine storeOk_of_fresh base len rfl (laidOut_ring base len s) places fun i j ne => ?_
  -- the higher of the two bases would lie in both rings
  have := disjoint i j (max (base i) (base j)) ne
  have := places i
  have := places j
  simp only [Ring.apart, Ring.fresh]
  omega

/-- The layout at power-on (R3). -/
theorem storeOk_of_powerOn {s : State} (store : s.store = .powerOn) : StoreOk s := by
  refine (storeOk_of_store (s := State.reset) store).2
    (storeOk_of_fresh (fun | .traffic => 0 | .send => 1280 | .loc => 1664) (fun | .traffic => 1280 | _ => 384) rfl
      (fun i => by cases i <;> rfl) (fun i => by cases i <;> decide) (fun i j ne => ?_))
  cases i <;> cases j <;> first | exact absurd rfl ne | simp [Ring.apart, Ring.fresh]

/-! ## The claim -/

theorem storeClosed_storeOk : StoreClosed StoreOk where
  congr ok store _ _ _ := (storeOk_of_store store).2 ok
  printer _ _ _ ok := ok
  punch _ _ _ ok := ok
  haltPrinter set ok := (sameCells_haltPrinter set _).storeOk ok
  haltPunch set ok := (sameCells_haltPunch set _).storeOk ok
  printTake h ok := (sameCells_doPrintTake h).storeOk ok
  punchTake h ok := (sameCells_doPunchTake h).storeOk ok
  sendTake h ok := (sameCells_takeEntry h).storeOk ok
  traffic _ fits ok := ok.writeTraffic fits
  text _ _ xs notTraffic origin _ ok := ok.putText notTraffic origin xs
  erase {s} _ ok := ok.appendEntry _ _ (by unfold destination; split <;> rfl)
  flags _ _ _ ok := ok
  station m ok := (sameCells_changeStation m _).storeOk ok
  source m ok := (sameCells_changeSource m _).storeOk ok
  divert ok := (sameCells_divertPunch _).storeOk ok
  read c count _ ok := (sameCells_afterTake c count _).storeOk ok
  move c delta ok := (sameCells_moveCursor c delta _).storeOk ok
  attach c _ ok := (sameCells_attachCursor c _).storeOk ok
  detach c _ ok := (sameCells_detachHost c _).storeOk ok
  cancel ok := (sameCells_cancelText _).storeOk ok
  layout _ _ _ _ _ _ _ fits _ := StoreOk.layOut fits _
  restart ok := ok.restartAll
  power rate := storeOk_of_powerOn (by simp [powerOn, State.reset])

/-- Settles O55. -/
theorem storeStaysOk : Obligations.StoreStaysOk := by
  unfold Obligations.StoreStaysOk
  intro s t ok next
  exact storeClosed_storeOk.step_keeps ok next

end Sys2Proof.Machine
end

section
/-! Every step keeps the station consistent: the attached flags with the modes (R7), a held entry with the cursor of its
engine (R10, R134, R151), a halted engine without an entry (R144, R161), the motor's timers with its state (R169, R173).
The claim O58. -/

namespace Sys2Proof.Machine

/-! ## Attached flags (R7) -/

/-- No cursor has been attached or detached. -/
def SameFlags (s t : State) : Prop := ∀ c, (t.cursor c).attached = (s.cursor c).attached

theorem SameFlags.refl (s : State) : SameFlags s s := fun _ => rfl

theorem SameFlags.trans {s t u : State} (h : SameFlags s t) (k : SameFlags t u) : SameFlags s u :=
  fun c => (k c).trans (h c)

theorem SameFlags.of_store {s t : State} (h : t.store = s.store) : SameFlags s t := fun c => by
  rw [State.cursor, h]
  rfl

/-- A cursor of which only R and the lost count move keeps its flag. -/
theorem sameFlags_setCursor {s : State} {c : CursorId} {v : Cursor} (h : v.attached = (s.cursor c).attached) :
    SameFlags s (s.setCursor c v) := fun d => by
  by_cases same : d = c
  · rw [same, setCursor_cursor_same, h]
  · rw [setCursor_cursor_other same]

theorem sameFlags_setRead (c : CursorId) (r : BitVec 32) (lost : Nat) (s : State) :
    SameFlags s (s.setCursor c { s.cursor c with r := r, lost := lost }) :=
  sameFlags_setCursor rfl

theorem sameFlags_lapCursor (c : CursorId) (n : Nat) (s : State) : SameFlags s (lapCursor c n s) :=
  sameFlags_setRead c ((s.ring c.ring).w - BitVec.ofNat 32 (s.ring c.ring).len) (satAdd 65535 (s.cursor c).lost n) s

theorem sameFlags_lapIfOver (c : CursorId) (s : State) : SameFlags s (lapIfOver c s) := by
  unfold lapIfOver
  split
  · exact sameFlags_lapCursor c 1 s
  · exact .refl s

theorem sameFlags_writeTraffic (e : Entry) (s : State) : SameFlags s (writeTraffic e s) :=
  have written : SameFlags s (appendEntry .traffic e s) := .refl s
  ((written.trans (sameFlags_lapIfOver .printP _)).trans (sameFlags_lapIfOver .punchT _)).trans
    (sameFlags_lapIfOver .hostT _)

theorem sameFlags_putText (i : RingId) (o : Origin) (xs : List (Code × Plane)) (s : State) :
    SameFlags s (putText i o xs s) := by
  induction xs generalizing s with
  | nil => exact .refl s
  | cons x xs ih =>
    have plane (u : State) : SameFlags u (setWriterPlane i x.2 u) := by cases i <;> exact .refl u
    exact SameFlags.trans (plane (appendEntry i _ s)) (ih _)

theorem sameFlags_testLockOn (i : RingId) (s : State) : SameFlags s (testLockOn i s) :=
  .of_store (by simp)

theorem sameFlags_returnEntry (h : Held) (s : State) : SameFlags s (returnEntry h s) := by
  unfold returnEntry
  split
  · exact .refl s
  · split
    · exact sameFlags_setCursor rfl
    · exact sameFlags_setRead h.cursor (s.cursor h.cursor).r (satAdd 65535 (s.cursor h.cursor).lost 1) s

theorem sameFlags_returnPrinterHeld (s : State) : SameFlags s (returnPrinterHeld s) := by
  unfold returnPrinterHeld
  split
  · exact .refl s
  · exact sameFlags_returnEntry _ s

theorem sameFlags_returnPunchHeld (s : State) : SameFlags s (returnPunchHeld s) := by
  unfold returnPunchHeld
  split
  · exact .refl s
  · exact sameFlags_returnEntry _ s

theorem sameFlags_haltPrinter (set : PrinterHalts → PrinterHalts) (s : State) :
    SameFlags s (haltPrinter set s) := by
  unfold haltPrinter
  split
  · exact .refl s
  · exact sameFlags_returnPrinterHeld s

theorem sameFlags_haltPunch (set : PunchHalts → PunchHalts) (s : State) : SameFlags s (haltPunch set s) := by
  unfold haltPunch
  split
  · exact .refl s
  · exact sameFlags_returnPunchHeld s

theorem sameFlags_advanceCursor (c : CursorId) (n : Nat) (s : State) : SameFlags s (advanceCursor c n s) :=
  sameFlags_setCursor rfl

theorem sameFlags_takeEntry {c : CursorId} {s t : State} {e : Entry} (h : takeEntry c s = some (e, t)) :
    SameFlags s t := by
  rw [(takeEntry_eq h).2]
  exact (sameFlags_advanceCursor c 1 s).trans (sameFlags_testLockOn _ _)

theorem sameFlags_doPrintTake {s t : State} (h : doPrintTake s = some t) : SameFlags s t := by
  simp only [doPrintTake] at h
  repeat' split at h
  all_goals cases h
  next taken => exact (sameFlags_takeEntry taken).trans (.of_store rfl)

theorem sameFlags_takeForPunch (n : Nat) (c : CursorId) (s : State) : SameFlags s (takeForPunch n c s) := by
  induction n generalizing s with
  | zero => exact .refl s
  | succ n ih =>
    simp only [takeForPunch]
    split
    · exact .refl s
    · next taken =>
      split
      · exact (sameFlags_takeEntry taken).trans (ih _)
      · exact (sameFlags_takeEntry taken).trans (.of_store rfl)

theorem sameFlags_doPunchTake {s t : State} (h : doPunchTake s = some t) : SameFlags s t := by
  simp only [doPunchTake] at h
  repeat' split at h
  all_goals cases h
  exact sameFlags_takeForPunch _ _ s

theorem sameFlags_moveCursor (c : CursorId) (delta : Int) (s : State) : SameFlags s (moveCursor c delta s) := by
  have set : SameFlags s (setUnread c (movedUnread s c delta) s) := sameFlags_setCursor rfl
  simp only [moveCursor]
  repeat' split
  all_goals first | exact set | exact set.trans (sameFlags_testLockOn _ _)

/-- After an attachment the cursor is attached, and the flags of the others are as they were (R9). -/
theorem attachCursor_attached (c d : CursorId) (s : State) :
    ((attachCursor c s).cursor d).attached = if d = c then true else (s.cursor d).attached := by
  have lapped : SameFlags s (if (s.ring c.ring).len < unread s c then
      lapCursor c (unread s c - (s.ring c.ring).len) s else s) := by
    split
    · exact sameFlags_lapCursor c _ s
    · exact .refl s
  by_cases same : d = c <;> cases attached : (s.cursor c).attached <;> simp only [attachCursor, attached, same, if_true,
    if_false, reduceCtorEq]
  · exact congrArg Cursor.attached (setCursor_cursor_same _ _ _)
  · exact (congrArg Cursor.attached (setCursor_cursor_other same _ _)).trans (lapped d)

/-- After a detachment the cursor is detached, and the flags of the others are as they were (R8). -/
theorem detachCursor_attached (c d : CursorId) (s : State) :
    ((detachCursor c s).cursor d).attached = if d = c then false else (s.cursor d).attached := by
  unfold detachCursor
  split
  · next same => rw [same, setCursor_cursor_same]
  · next other => rw [setCursor_cursor_other other]

theorem detachHost_attached (c d : CursorId) (s : State) :
    ((detachHost c s).cursor d).attached = if d = c then false else (s.cursor d).attached := by
  unfold detachHost
  split
  · rw [sameFlags_testLockOn _ _ d, detachCursor_attached]
  · next detached =>
    split
    · next same => rw [same]; simpa using detached
    · rfl

theorem sameFlags_afterTake (c : CursorId) (count : Nat) (s : State) : SameFlags s (afterTake c count s) := by
  simp only [afterTake]
  split
  · exact .refl s
  · exact (sameFlags_advanceCursor c _ s).trans (sameFlags_testLockOn _ _)

theorem sameFlags_cancelText (s : State) : SameFlags s (cancelText s) := by
  have set : SameFlags s (setUnread .xmit 0 s) := sameFlags_setCursor rfl
  exact set.trans (SameFlags.trans (t := setWriterPlane .send s.transmitter.streamPlane (setUnread .xmit 0 s))
    (.refl _) (sameFlags_testLockOn _ _))

/-- A ring reset keeps the attached flags (R25). -/
theorem sameFlags_resetRings (s : State) : SameFlags s (resetRings s) := fun c => by
  have store : (resetRings s).store = s.store.rewound := by simp [resetRings]
  have rewound : (resetRings s).cursor c = (s.cursor c).rewound := by
    rw [State.cursor, store]
    exact Cursors.get_rewound s.store.cursors c
  rw [rewound]
  rfl

theorem restartAll_store (s : State) : (restartAll s).store = (resetRings s).store := by
  simp only [restartAll, restartEvents, restartPunch, restartPrinter, restartKeyboard, restartReceiver, restartLine]
  split <;> simp

theorem sameFlags_restartAll (s : State) : SameFlags s (restartAll s) :=
  (sameFlags_resetRings s).trans (.of_store (restartAll_store s))

theorem sameFlags_layOut (tb tl sb sl lb ll : Nat) (s : State) : SameFlags s (layOut tb tl sb sl lb ll s) :=
  SameFlags.trans (t := s.setStore { s.store with rings := _ }) (.refl s) (sameFlags_resetRings _)

@[simp] theorem afterTake_frame (c : CursorId) (count : Nat) (s : State) :
    (afterTake c count s).modes = s.modes ∧ (afterTake c count s).printer = s.printer
      ∧ (afterTake c count s).punch = s.punch := by
  simp only [afterTake]
  split <;> simp [advanceCursor]

@[simp] theorem detachHost_frame (c : CursorId) (s : State) :
    (detachHost c s).modes = s.modes ∧ (detachHost c s).printer = s.printer ∧ (detachHost c s).punch = s.punch := by
  unfold detachHost
  split <;> simp

@[simp] theorem cancelText_frame (s : State) :
    (cancelText s).modes = s.modes ∧ (cancelText s).printer = s.printer ∧ (cancelText s).punch = s.punch := by
  simp [cancelText, setWriterPlane, setUnread]

@[simp] theorem layOut_frame (tb tl sb sl lb ll : Nat) (s : State) :
    (layOut tb tl sb sl lb ll s).modes = s.modes ∧ (layOut tb tl sb sl lb ll s).printer = s.printer
      ∧ (layOut tb tl sb sl lb ll s).punch = s.punch := by
  simp [layOut, resetRings]

theorem divertPunch_idle {s : State} (h : divertDue s = false) : divertPunch s = s := by simp [divertPunch, h]

/-- The divert attaches PUNCH-T (R163). -/
theorem divertPunch_attached {s : State} (h : divertDue s = true) (d : CursorId) :
    ((divertPunch s).cursor d).attached = if d = .punchT then true else (s.cursor d).attached := by
  rw [divertPunch, if_pos h]
  refine (attachCursor_attached .punchT d _).trans ?_
  split
  · rfl
  · exact sameFlags_setRead .punchT (s.cursor .printP).r (s.cursor .punchT).lost s d

theorem divertPunch_modes {s : State} (h : divertDue s = true) :
    (divertPunch s).modes = { s.modes with source := .traffic } := by
  simp [divertPunch, h]

theorem restartAll_modes (s : State) : (restartAll s).modes = s.modes := by
  simp only [restartAll, restartEvents, restartPunch, restartPrinter, restartKeyboard, restartReceiver, restartLine]
  split <;> simp [resetRings]

theorem SameFlags.attachedByMode {s t : State} (h : SameFlags s t) (station : t.modes.station = s.modes.station)
    (source : t.modes.source = s.modes.source) (by_mode : AttachedByMode s) : AttachedByMode t := by
  unfold AttachedByMode
  rw [h, h, h, h, h, station, source]
  exact by_mode

theorem changeStation_attached (m : StationMode) (d : CursorId) (s : State) :
    ((changeStation m s).cursor d).attached =
      if s.modes.station = m then (s.cursor d).attached
      else if d = m.cursor then true else if d = s.modes.station.cursor then false else (s.cursor d).attached := by
  simp only [changeStation]
  split
  · rfl
  · rw [SameFlags.of_store (s := attachCursor m.cursor (detachCursor s.modes.station.cursor (returnPrinterHeld s)))
      (by simp) d, attachCursor_attached, detachCursor_attached, sameFlags_returnPrinterHeld s d]

theorem changeSource_attached (m : PunchSource) (d : CursorId) (s : State) :
    ((changeSource m s).cursor d).attached =
      if s.modes.source = m then (s.cursor d).attached
      else if some d = m.cursor then true else if some d = s.modes.source.cursor then false
      else (s.cursor d).attached := by
  have left (c : Option CursorId) (u : State) :
      ((leaveSource c u).cursor d).attached = if some d = c then false else (u.cursor d).attached := by
    cases c with
    | none => rfl
    | some c => simp only [leaveSource, sameFlags_testLockOn _ _ d, detachCursor_attached, Option.some.injEq]
  have joined (c : Option CursorId) (u : State) :
      ((joinSource c u).cursor d).attached = if some d = c then true else (u.cursor d).attached := by
    cases c with
    | none => rfl
    | some c => simp only [joinSource, attachCursor_attached, Option.some.injEq]
  simp only [changeSource]
  split
  · rfl
  · rw [← sameFlags_returnPunchHeld s d, ← left, ← joined]
    rfl

@[simp] theorem changeStation_station (m : StationMode) (s : State) : (changeStation m s).modes.station = m := by
  simp only [changeStation]
  split
  · assumption
  · simp

@[simp] theorem changeStation_source (m : StationMode) (s : State) :
    (changeStation m s).modes.source = s.modes.source := by
  simp only [changeStation]
  split <;> simp

@[simp] theorem changeSource_source (m : PunchSource) (s : State) : (changeSource m s).modes.source = m := by
  simp only [changeSource]
  split
  · assumption
  · simp

@[simp] theorem changeSource_station (m : PunchSource) (s : State) :
    (changeSource m s).modes.station = s.modes.station := by
  simp only [changeSource]
  split <;> simp

theorem storeClosed_attachedByMode : StoreClosed AttachedByMode where
  congr h store modes _ _ := (SameFlags.of_store store).attachedByMode (by rw [modes]) (by rw [modes]) h
  printer _ _ _ h := h
  punch _ _ _ h := h
  haltPrinter set h := (sameFlags_haltPrinter set _).attachedByMode (by simp) (by simp) h
  haltPunch set h := (sameFlags_haltPunch set _).attachedByMode (by simp) (by simp) h
  printTake d h := (sameFlags_doPrintTake d).attachedByMode (by rw [doPrintTake_frame d]) (by rw [doPrintTake_frame d]) h
  punchTake d h := (sameFlags_doPunchTake d).attachedByMode (by rw [doPunchTake_frame d]) (by rw [doPunchTake_frame d]) h
  sendTake d h := (sameFlags_takeEntry d).attachedByMode (by simp [(takeEntry_eq d).2]) (by simp [(takeEntry_eq d).2]) h
  traffic e _ h := (sameFlags_writeTraffic e _).attachedByMode (by simp) (by simp) h
  text i o xs _ _ _ h :=
    (sameFlags_putText i o xs _).attachedByMode (by rw [putText_frame]; rfl) (by rw [putText_frame]; rfl) h
  erase _ h := h
  flags {s} v station source h := SameFlags.attachedByMode (s := s) (.of_store rfl) station source h
  station {s} m h := by
    obtain ⟨printP, printA, punchT, punchL, xmit⟩ := h
    refine ⟨?_, ?_, ?_, ?_, ?_⟩ <;> rw [changeStation_attached]
    all_goals
      cases m <;> cases station : s.modes.station <;> simp_all [StationMode.cursor]
  source {s} m h := by
    obtain ⟨printP, printA, punchT, punchL, xmit⟩ := h
    refine ⟨?_, ?_, ?_, ?_, ?_⟩ <;> rw [changeSource_attached]
    all_goals
      cases m <;> cases source : s.modes.source <;> simp_all [PunchSource.cursor]
  divert {s} h := by
    cases due : divertDue s with
    | false => rwa [divertPunch_idle due]
    | true =>
      obtain ⟨printP, printA, punchT, punchL, xmit⟩ := h
      have off : s.modes.source = .off := by simp [divertDue] at due; exact due.1.1.2
      refine ⟨?_, ?_, ?_, ?_, ?_⟩ <;> refine (divertPunch_attached due _).trans ?_ <;>
        simp_all [divertPunch_modes due]
  read c count _ h := (sameFlags_afterTake c count _).attachedByMode (by simp) (by simp) h
  move c delta h :=
    (sameFlags_moveCursor c delta _).attachedByMode (by rw [moveCursor_frame]) (by rw [moveCursor_frame]) h
  attach {s} c host h := by
    obtain ⟨printP, printA, punchT, punchL, xmit⟩ := h
    obtain rfl | rfl := host <;> simp only [AttachedByMode, attachCursor_attached] <;> simp_all
  detach {s} c host h := by
    obtain ⟨printP, printA, punchT, punchL, xmit⟩ := h
    obtain rfl | rfl := host <;> simp only [AttachedByMode, detachHost_attached, detachHost_frame] <;> simp_all
  cancel h := (sameFlags_cancelText _).attachedByMode (by simp) (by simp) h
  layout _ _ _ _ _ _ _ _ h := (sameFlags_layOut _ _ _ _ _ _ _).attachedByMode (by simp) (by simp) h
  restart h := (sameFlags_restartAll _).attachedByMode (by rw [restartAll_modes]) (by rw [restartAll_modes]) h
  power {s} rate := by
    have store (c : CursorId) : (powerOn rate s).cursor c = Store.powerOn.cursors.get c := by
      simp [State.cursor, powerOn, State.reset]
    have modes : (powerOn rate s).modes = .powerOn := by simp [powerOn, State.reset]
    simp only [AttachedByMode, store, modes]
    decide

/-! ## Held entries and halts (R10, R134, R144, R151, R161) -/

@[simp] theorem returnPrinterHeld_held (s : State) : (returnPrinterHeld s).printer.held = none := by
  unfold returnPrinterHeld
  split <;> simp [*]

@[simp] theorem returnPrinterHeld_halts (s : State) : (returnPrinterHeld s).printer.halts = s.printer.halts := by
  unfold returnPrinterHeld
  split <;> simp

@[simp] theorem returnPunchHeld_held (s : State) : (returnPunchHeld s).punch.held = none := by
  unfold returnPunchHeld
  split <;> simp [*]

@[simp] theorem returnPunchHeld_halts (s : State) : (returnPunchHeld s).punch.halts = s.punch.halts := by
  unfold returnPunchHeld
  split <;> simp

/-- A halt reason set before keeps the slot; the first one empties it (R144). -/
theorem haltPrinter_held (set : PrinterHalts → PrinterHalts) (s : State) :
    (haltPrinter set s).printer.held = if s.printer.halts.any then s.printer.held else none := by
  unfold haltPrinter
  split <;> simp

/-- A halt reason set before keeps the slot; the first one empties it (R161). -/
theorem haltPunch_held (set : PunchHalts → PunchHalts) (s : State) :
    (haltPunch set s).punch.held = if s.punch.halts.any then s.punch.held else none := by
  unfold haltPunch
  split <;> simp

/-- A take of the printer goes through the cursor that the station mode reads (R134). -/
theorem doPrintTake_held {s t : State} (h : doPrintTake s = some t) :
    s.printer.held = none ∧ s.printer.halts.any = false ∧ t.printer.halts = s.printer.halts
      ∧ ∃ e, t.printer.held = some { entry := e, cursor := printCursor s, moved := false } := by
  simp only [doPrintTake] at h
  split at h
  · next free =>
    simp only [Bool.and_eq_true, Option.isNone_iff_eq_none, Bool.not_eq_true'] at free
    split at h
    · cases h
    · next taken =>
      cases h
      exact ⟨free.1.1, free.2, by simp [(takeEntry_eq taken).2, advanceCursor], _, rfl⟩
  · cases h

/-- What the punch takes goes through the cursor given, or nothing is taken. -/
theorem takeForPunch_held (n : Nat) (c : CursorId) (s : State) :
    (takeForPunch n c s).punch.halts = s.punch.halts
      ∧ ((takeForPunch n c s).punch.held = s.punch.held
        ∨ ∃ e, (takeForPunch n c s).punch.held = some { entry := e, cursor := c, moved := false }) := by
  induction n generalizing s with
  | zero => exact ⟨rfl, .inl rfl⟩
  | succ n ih =>
    simp only [takeForPunch]
    split
    · exact ⟨rfl, .inl rfl⟩
    · next e u taken =>
      have punch : u.punch = s.punch := by simp [(takeEntry_eq taken).2, advanceCursor]
      split
      · rw [← punch]
        exact ih u
      · exact ⟨by simp [punch], .inr ⟨e, rfl⟩⟩

theorem doPunchTake_held {s t : State} (h : doPunchTake s = some t) :
    s.punch.held = none ∧ s.punch.halts.any = false ∧ t.punch.halts = s.punch.halts
      ∧ ∃ c, punchCursor s = some c
        ∧ (t.punch.held = none ∨ ∃ e, t.punch.held = some { entry := e, cursor := c, moved := false }) := by
  simp only [doPunchTake] at h
  split at h
  · cases h
  · next c reads =>
    split at h
    · next free =>
      simp only [Bool.and_eq_true, Option.isNone_iff_eq_none, Bool.not_eq_true'] at free
      cases h
      obtain ⟨halts, held⟩ := takeForPunch_held (unread s c) c s
      rw [free.1.1.1.1] at held
      exact ⟨free.1.1.1.1, free.1.1.2, halts, c, reads, held⟩
    · cases h

/-- A movement marks the entry held or leaves it (R18). -/
theorem moveCursor_slots (c : CursorId) (delta : Int) (s : State) :
    (moveCursor c delta s).printer.halts = s.printer.halts ∧ (moveCursor c delta s).punch.halts = s.punch.halts
      ∧ (∃ mark : Held → Held, (∀ h, (mark h).cursor = h.cursor)
        ∧ (moveCursor c delta s).printer.held = s.printer.held.map mark
        ∧ (moveCursor c delta s).punch.held = s.punch.held.map mark) := by
  have marks (h : Held) : (Held.markMoved c h).cursor = h.cursor := by
    unfold Held.markMoved
    split <;> rfl
  simp only [moveCursor]
  split <;> split
  · exact ⟨by simp [setUnread], by simp [setUnread], id, fun _ => rfl, by simp [setUnread], by simp [setUnread]⟩
  · exact ⟨by simp [setUnread, markHeld], by simp [setUnread, markHeld], _, marks, by simp [setUnread, markHeld],
      by simp [setUnread, markHeld]⟩
  · exact ⟨rfl, rfl, id, fun _ => rfl, by simp [setUnread], by simp [setUnread]⟩
  · exact ⟨rfl, rfl, _, marks, rfl, rfl⟩

/-- A ring reset and a restart leave no entry held. -/
theorem restartAll_slots (s : State) :
    (restartAll s).printer.held = none ∧ (restartAll s).punch.held = none := by
  simp [restartAll, restartEvents, restartPunch, restartPrinter, Printer.powerOn, Punch.powerOn]

theorem powerOn_slots (rate : Bool) (s : State) :
    (powerOn rate s).printer.held = none ∧ (powerOn rate s).punch.held = none := by
  simp [powerOn, Printer.powerOn, Punch.powerOn]

theorem changeStation_held (m : StationMode) (s : State) :
    (changeStation m s).printer.held = if s.modes.station = m then s.printer.held else none := by
  simp only [changeStation]
  split <;> simp

theorem changeSource_held (m : PunchSource) (s : State) :
    (changeSource m s).punch.held = if s.modes.source = m then s.punch.held else none := by
  simp only [changeSource]
  split <;> simp [forgetRun]

theorem changeStation_halts (m : StationMode) (s : State) :
    (changeStation m s).printer.halts = s.printer.halts := by
  simp only [changeStation]
  split <;> simp

theorem changeSource_halts (m : PunchSource) (s : State) : (changeSource m s).punch.halts = s.punch.halts := by
  simp only [changeSource]
  split <;> simp [forgetRun]

theorem HeldThrough.of_slots {s t : State} (h : HeldThrough s) (station : t.modes.station = s.modes.station)
    (source : t.modes.source = s.modes.source) (printer : t.printer.held = s.printer.held ∨ t.printer.held = none)
    (punch : t.punch.held = s.punch.held ∨ t.punch.held = none) : HeldThrough t := by
  have reads : printCursor t = printCursor s ∧ punchCursor t = punchCursor s := by
    simp [printCursor, punchCursor, station, source]
  refine ⟨fun e held => ?_, fun e held => ?_⟩
  · rw [reads.1]
    rcases printer with same | none <;> simp_all [HeldThrough]
  · rw [reads.2]
    rcases punch with same | none <;> simp_all [HeldThrough]

theorem HeldThrough.of_empty {s : State} (printer : s.printer.held = none) (punch : s.punch.held = none) :
    HeldThrough s := by simp [HeldThrough, printer, punch]

theorem storeClosed_heldThrough : StoreClosed HeldThrough where
  congr h _ modes printer punch := h.of_slots (by rw [modes]) (by rw [modes]) (.inl (by rw [printer])) (.inl (by rw [punch]))
  printer _ held _ h := h.of_slots rfl rfl held (.inl rfl)
  punch _ held _ h := h.of_slots rfl rfl (.inl rfl) held
  haltPrinter set h := h.of_slots (by simp) (by simp) (by rw [haltPrinter_held]; split <;> simp) (.inl (by simp))
  haltPunch set h := h.of_slots (by simp) (by simp) (.inl (by simp)) (by rw [haltPunch_held]; split <;> simp)
  printTake {s t} d h := by
    obtain ⟨_, _, _, e, held⟩ := doPrintTake_held d
    have frame := doPrintTake_frame d
    rw [frame] at held ⊢
    exact ⟨fun x eq => by rw [held] at eq; cases eq; rfl, h.2⟩
  punchTake {s t} d h := by
    obtain ⟨_, _, _, c, reads, held⟩ := doPunchTake_held d
    have frame := doPunchTake_frame d
    rw [frame] at held ⊢
    refine ⟨h.1, fun x eq => ?_⟩
    rcases held with held | ⟨e, held⟩ <;> rw [held] at eq <;> cases eq
    exact reads
  sendTake d h := by
    rw [(takeEntry_eq d).2]
    exact h.of_slots (by simp [advanceCursor]) (by simp [advanceCursor]) (.inl (by simp [advanceCursor]))
      (.inl (by simp [advanceCursor]))
  traffic e _ h := h.of_slots (by simp) (by simp) (.inl (by simp)) (.inl (by simp))
  text i o xs _ _ _ h := by rw [putText_frame]; exact h
  erase _ h := h
  flags v station source h := h.of_slots station source (.inl rfl) (.inl rfl)
  station {s} m h := by
    by_cases same : s.modes.station = m
    · rwa [changeStation, if_pos same]
    · exact ⟨fun e held => by simp [changeStation_held, same] at held,
        fun e held => by simpa [punchCursor] using h.2 e (by simpa using held)⟩
  source {s} m h := by
    by_cases same : s.modes.source = m
    · simpa [changeSource, same] using h
    · exact ⟨fun e held => by simpa [printCursor] using h.1 e (by simpa using held),
        fun e held => by simp [changeSource_held, same] at held⟩
  divert {s} h := by
    cases due : divertDue s with
    | false => rwa [divertPunch_idle due]
    | true =>
      have off : s.modes.source = .off := by simp [divertDue] at due; exact due.1.1.2
      have slots : (divertPunch s).printer = s.printer ∧ (divertPunch s).punch.held = s.punch.held := by
        simp [divertPunch, due, forgetRun]
      refine ⟨fun e held => ?_, fun e held => ?_⟩
      · simpa [printCursor, divertPunch_modes due] using h.1 e (by rwa [slots.1] at held)
      · have reads := h.2 e (by rwa [slots.2] at held)
        simp [punchCursor, off] at reads
  read c count _ h := h.of_slots (by simp) (by simp) (.inl (by simp)) (.inl (by simp))
  move {s} c delta h := by
    obtain ⟨_, _, mark, keeps, printer, punch⟩ := moveCursor_slots c delta s
    have reads : printCursor (moveCursor c delta s) = printCursor s
        ∧ punchCursor (moveCursor c delta s) = punchCursor s := by
      simp only [printCursor, punchCursor]
      rw [moveCursor_frame]
      exact ⟨rfl, rfl⟩
    refine ⟨fun e held => ?_, fun e held => ?_⟩
    · rw [printer] at held
      obtain ⟨x, was, rfl⟩ := Option.map_eq_some_iff.1 held
      rw [reads.1, keeps, h.1 x was]
    · rw [punch] at held
      obtain ⟨x, was, rfl⟩ := Option.map_eq_some_iff.1 held
      rw [reads.2, keeps, h.2 x was]
  attach c _ h := h.of_slots (by simp) (by simp) (.inl (by simp)) (.inl (by simp))
  detach c _ h := h.of_slots (by simp) (by simp) (.inl (by simp)) (.inl (by simp))
  cancel h := h.of_slots (by simp) (by simp) (.inl (by simp)) (.inl (by simp))
  layout _ _ _ _ _ _ _ _ h := h.of_slots (by simp) (by simp) (.inl (by simp)) (.inl (by simp))
  restart _ := .of_empty (restartAll_slots _).1 (restartAll_slots _).2
  power rate := .of_empty (powerOn_slots rate _).1 (powerOn_slots rate _).2

theorem HaltedHoldNothing.of_slots {s t : State} (h : HaltedHoldNothing s)
    (printer : t.printer.held = none ∨ t.printer.held = s.printer.held
      ∧ (t.printer.halts.any = true → s.printer.halts.any = true))
    (punch : t.punch.held = none ∨ t.punch.held = s.punch.held
      ∧ (t.punch.halts.any = true → s.punch.halts.any = true)) : HaltedHoldNothing t := by
  refine ⟨fun halted => ?_, fun halted => ?_⟩
  · rcases printer with empty | ⟨same, before⟩
    · exact empty
    · rw [same, h.1 (before halted)]
  · rcases punch with empty | ⟨same, before⟩
    · exact empty
    · rw [same, h.2 (before halted)]

theorem storeClosed_haltedHoldNothing : StoreClosed HaltedHoldNothing where
  congr h _ _ printer punch := h.of_slots (.inr (by simp [printer])) (.inr (by simp [punch]))
  printer _ held halts h := h.of_slots (held.elim (fun e => .inr ⟨e, halts⟩) .inl) (.inr ⟨rfl, id⟩)
  punch _ held halts h := h.of_slots (.inr ⟨rfl, id⟩) (held.elim (fun e => .inr ⟨e, halts⟩) .inl)
  haltPrinter {s} set h := by
    have empty : (haltPrinter set s).printer.held = none := by
      rw [haltPrinter_held]
      split
      · exact h.1 ‹_›
      · rfl
    exact h.of_slots (.inl empty) (.inr (by simp))
  haltPunch {s} set h := by
    have empty : (haltPunch set s).punch.held = none := by
      rw [haltPunch_held]
      split
      · exact h.2 ‹_›
      · rfl
    exact h.of_slots (.inr (by simp)) (.inl empty)
  printTake d h := by
    obtain ⟨_, free, halts, _⟩ := doPrintTake_held d
    refine ⟨fun halted => ?_, fun halted => ?_⟩
    · rw [halts, free] at halted
      cases halted
    · rw [doPrintTake_frame d] at halted ⊢
      exact h.2 halted
  punchTake d h := by
    obtain ⟨_, free, halts, _⟩ := doPunchTake_held d
    refine ⟨fun halted => ?_, fun halted => ?_⟩
    · rw [doPunchTake_frame d] at halted ⊢
      exact h.1 halted
    · rw [halts, free] at halted
      cases halted
  sendTake d h := by
    rw [(takeEntry_eq d).2]
    exact h.of_slots (.inr (by simp [advanceCursor])) (.inr (by simp [advanceCursor]))
  traffic _ _ h := h.of_slots (.inr (by simp)) (.inr (by simp))
  text i o xs _ _ _ h := by rw [putText_frame]; exact h
  erase _ h := h
  flags _ _ _ h := h
  station m h := h.of_slots (by rw [changeStation_held, changeStation_halts]; split <;> simp) (.inr (by simp))
  source m h := h.of_slots (.inr (by simp)) (by rw [changeSource_held, changeSource_halts]; split <;> simp)
  divert {s} h := by
    unfold divertPunch
    split
    · exact h.of_slots (.inr (by simp)) (.inr (by simp [forgetRun]))
    · exact h
  read _ _ _ h := h.of_slots (.inr (by simp)) (.inr (by simp))
  move {s} c delta h := by
    obtain ⟨printerHalts, punchHalts, mark, _, printer, punch⟩ := moveCursor_slots c delta s
    refine ⟨fun halted => ?_, fun halted => ?_⟩
    · rw [printer, h.1 (by rwa [← printerHalts]), Option.map_none]
    · rw [punch, h.2 (by rwa [← punchHalts]), Option.map_none]
  attach _ _ h := h.of_slots (.inr (by simp)) (.inr (by simp))
  detach _ _ h := h.of_slots (.inr (by simp)) (.inr (by simp))
  cancel h := h.of_slots (.inr (by simp)) (.inr (by simp))
  layout _ _ _ _ _ _ _ _ h := h.of_slots (.inr (by simp)) (.inr (by simp))
  restart h := h.of_slots (.inl (restartAll_slots _).1) (.inl (restartAll_slots _).2)
  power rate :=
    ⟨fun _ => (powerOn_slots rate _).1, fun _ => (powerOn_slots rate _).2⟩

end Sys2Proof.Machine
end

section
/-! The motor's timers follow its state (R169, R173), and the claim O58. -/

namespace Sys2Proof.Machine
namespace MotorTimersOk

theorem of_motor {s t : State} (h : MotorTimersOk s) (motor : t.motor = s.motor) : MotorTimersOk t := by
  unfold MotorTimersOk
  rwa [motor]

/-- Neither timer runs in FAULT and in STOPPED. -/
theorem of_still {s : State} (runup : s.motor.state ≠ .runup) (timer : s.motor.runupEnds = none)
    (idle : s.motor.idleEnds = none) : MotorTimersOk s := by
  cases state : s.motor.state <;> simp_all [MotorTimersOk]

theorem of_reset {s : State} (motor : s.motor = .powerOn) : MotorTimersOk s :=
  of_still (by simp [motor, Motor.powerOn]) (by simp [motor, Motor.powerOn]) (by simp [motor, Motor.powerOn])

theorem inert : Inert MotorTimersOk where
  now _ _ h := h
  ticket _ _ h := h
  pending _ _ h := h
  ahead _ _ h := h
  link _ _ h := h
  events _ _ h := h
  sense _ _ h := h

theorem loadIdle {s : State} (h : MotorTimersOk s) : MotorTimersOk (loadIdle s) := by
  unfold Machine.loadIdle
  split
  · next running => exact ⟨h.1, fun _ => by simpa [motorRunning] using running⟩
  · exact h

/-! ## What the engines begin -/

theorem beginWork {s : State} (steps : List PunchStep) (h : MotorTimersOk s) : MotorTimersOk (beginWork steps s) := by
  unfold Machine.beginWork
  split
  · exact h
  · exact loadIdle h

theorem beginFeeds {s : State} (n : Nat) (h : MotorTimersOk s) : MotorTimersOk (beginFeeds n s) := by
  unfold Machine.beginFeeds
  split
  · exact h
  · exact loadIdle h

theorem markerReturn {s : State} (h : MotorTimersOk s) : MotorTimersOk (markerReturn s) := by
  unfold Machine.markerReturn
  split
  · exact loadIdle h
  · exact h

theorem beginAction {s : State} (a : PrintAction) (h : MotorTimersOk s) : MotorTimersOk (beginAction a s) := by
  cases a with
  | strike g => exact loadIdle h
  | space =>
    simp only [Machine.beginAction]
    split
    · exact h
    · exact loadIdle h
  | cr => exact loadIdle h
  | lf => exact beginFeeds 1 h
  | bell => exact h
  | nothing => exact h
  | connect => exact beginFeeds 1 (markerReturn h)
  | clear => exact beginFeeds _ (markerReturn h)

theorem beginHeld {s t : State} (d : beginHeld s = some t) (h : MotorTimersOk s) : MotorTimersOk t := by
  simp only [Machine.beginHeld] at d
  repeat' split at d
  all_goals cases d
  exact beginAction _ h

theorem punchEntry {s : State} (e : Entry) (h : MotorTimersOk s) : MotorTimersOk (punchEntry e s) := by
  simp only [Machine.punchEntry, beginCharacter, beginErase]
  repeat' split
  all_goals first | exact h | exact beginWork _ h

theorem beginPunchHeld {s t : State} (d : beginPunchHeld s = some t) (h : MotorTimersOk s) : MotorTimersOk t := by
  simp only [Machine.beginPunchHeld] at d
  repeat' split at d
  all_goals cases d
  exact punchEntry _ h

theorem printGoesOn {s : State} (h : MotorTimersOk s) : MotorTimersOk (printGoesOn s) := by
  suffices run : ∀ n (u : State), MotorTimersOk u → MotorTimersOk (printRun n u) from run _ s h
  intro n
  induction n with
  | zero => exact fun _ hu => hu
  | succ n ih =>
    intro u hu
    simp only [printRun]
    split
    · exact hu
    · next t taken =>
      have after : MotorTimersOk t := by rw [doPrintTake_frame taken]; exact hu
      split
      · exact after
      · next begun =>
        have rung : MotorTimersOk (ringAtOnce t) := by rw [ringAtOnce_frame]; exact after
        exact ih _ (beginHeld begun rung)

theorem punchGoesOn {s : State} (h : MotorTimersOk s) : MotorTimersOk (punchGoesOn s) := by
  suffices run : ∀ n (u : State), MotorTimersOk u → MotorTimersOk (punchRun n u) from run _ s h
  intro n
  induction n with
  | zero => exact fun _ hu => hu
  | succ n ih =>
    intro u hu
    simp only [punchRun]
    split
    · exact hu
    · next t taken =>
      have after : MotorTimersOk t := by rw [doPunchTake_frame taken]; exact hu
      split
      · exact after
      · next begun => exact ih _ (beginPunchHeld begun after)

/-! ## Motor control -/

theorem resumePunchStep {s : State} (h : MotorTimersOk s) : MotorTimersOk (resumePunchStep s) := by
  unfold Machine.resumePunchStep
  split
  · exact loadIdle h
  · exact h

theorem enterRunning (s : State) : MotorTimersOk (enterRunning s) := by
  have running : MotorTimersOk (s.setMotor { state := .running, runupEnds := none, idleEnds := none }) :=
    of_still nofun rfl rfl
  simp only [Machine.enterRunning]
  split
  · exact of_motor (resumePunchStep (loadIdle running)) (by simp)
  · exact resumePunchStep (loadIdle running)

theorem beginRunup (s : State) : MotorTimersOk (beginRunup s) := by
  simp only [Machine.beginRunup]
  split
  · exact enterRunning _
  · exact ⟨rfl, nofun⟩

theorem enterFault (s : State) : MotorTimersOk (enterFault s) := by
  have fault (u : State) (motor : u.motor = { state := .fault, runupEnds := none, idleEnds := none }) :
      MotorTimersOk u := of_still (by simp [motor]) (by simp [motor]) (by simp [motor])
  simp only [Machine.enterFault]
  split <;> exact fault _ (by simp)

theorem doDebounced {k : Fin 6} {s t : State} (d : doDebounced k s = some t) (h : MotorTimersOk s) :
    MotorTimersOk t := by
  have asserted {u : State} (seen : MotorTimersOk u) : MotorTimersOk (senseAsserted k u) := by
    simp only [senseAsserted]
    repeat' split
    · exact of_motor seen (by simp)
    · exact seen
    · exact of_motor seen (by simp)
    · unfold motorReadySet
      split
      · exact enterRunning _
      · exact seen
    · exact of_motor seen (by simp)
    · exact seen
  have released {u : State} (seen : MotorTimersOk u) : MotorTimersOk (senseReleased k u) := by
    simp only [senseReleased, motorReadyLost]
    repeat' split
    all_goals first | exact seen | exact enterFault _
  have seen (i : SenseInput) (time : Nat) : MotorTimersOk (raiseSenseChange (setInput k i (s.upTo time))) :=
    inert.raiseSenseChange h
  simp only [Machine.doDebounced, debounceTo] at d
  split at d <;> cases d
  split
  · exact asserted (seen _ _)
  · exact released (seen _ _)

/-- A restart of the motor leads to the run-up or leaves it STOPPED (R171). -/
theorem restartMotor {s : State} (h : MotorTimersOk s) : MotorTimersOk (restartMotor s) := by
  simp only [Machine.restartMotor]
  split
  · split
    · exact beginRunup _
    · exact of_still nofun rfl rfl
  · exact h

theorem stopMotor (s : State) : MotorTimersOk (stopMotor s) := of_still nofun rfl rfl

/-! ## Every step -/

theorem records {k : Byte} {s t : State} (h : MotorTimersOk s) (e : Effect s k t) : MotorTimersOk t := by
  cases e with
  | none => exact h
  | motorAndBellSetup p =>
    simp only [doMotorAndBellSetup]
    repeat' split
    all_goals first | exact h | exact loadIdle h
  | motorRestart => exact restartMotor h
  | restart => exact of_reset (by simp [restartAll, restartEvents, restartPunch, restartPrinter])
  | lineSetup p => rw [doLineSetup_frame]; exact h
  | printerSetup p => rw [doPrinterSetup_frame]; exact h
  | keyboardSetup p => rw [doKeyboardSetup_frame]; exact h
  | punchSetup p => rw [doPunchSetup_frame]; exact h
  | ringLayout p => rw [doRingLayout_frame]; exact h
  | loadCodes p => rw [doLoadCodes_frame]; exact h
  | loadKeys p => rw [doLoadKeys_frame]; exact h
  | loadAnswerBack p => rw [doLoadAnswerBack_frame]; exact h
  | loadRefusalText p => rw [doLoadRefusalText_frame]; exact h
  | setMode p => rw [doSetMode_frame]; exact h
  | answer => rw [doAnswer_frame]; exact h
  | originate => rw [doOriginate_frame]; exact h
  | clear => rw [doClear_frame]; exact h
  | breakSend => rw [doBreak_frame]; exact h
  | hereIs => rw [doHereIs_frame]; exact h
  | haltSend => rw [doHaltSend_frame]; exact h
  | resumeSend => rw [doResumeSend_frame]; exact h
  | cancelSend => rw [doCancelSend_frame]; exact h
  | printerStop => rw [doPrinterStop_frame]; exact h
  | printerResume => rw [doPrinterResume_frame]; exact h
  | punchStop => rw [doPunchStop_frame]; exact h
  | punchResume => rw [doPunchResume_frame]; exact h
  | punchFeed n => rw [doPunchFeed_frame]; exact h
  | writeText p => rw [doWriteText_frame]; exact h
  | writeCodes p => rw [doWriteCodes_frame]; exact h
  | readTake c n => rw [doReadTake_frame]; exact h
  | moveReader c delta => rw [doMoveReader_frame]; exact h
  | attach c => rw [doAttach_frame]; exact h
  | detach c => rw [doDetach_frame]; exact h
  | statistics => rw [doStatistics_frame]; exact h
  | eventSetup p => rw [doEventSetup_frame]; exact h
  | eventClear p => rw [doEventClear_frame]; exact h

theorem sequenceDone {s : State} (h : MotorTimersOk s) : MotorTimersOk (sequenceDone s) := by
  refine of_motor h ?_
  unfold Machine.sequenceDone
  split
  · split <;> rfl
  · simp [setSequencer]
  · rfl

theorem own {i : Instr} {f : State → Option State} {s t : State} (row : ownDo i = some f) (h : MotorTimersOk s)
    (d : f s = some t) : MotorTimersOk t := by
  cases i <;> cases row
  case interByteGapExpiry => exact inert.doGapExpiry h d
  case recordOverrun => exact inert.doOverrun h d
  case outgoingRecordEnd => exact inert.doRecordEnd h d
  case sensePinChange => exact inert.doSensePin h d
  case unitSample => rw [doUnitSample_frame d]; exact h
  case falseStart => rw [doFalseStart_frame d]; exact h
  case characterCompletion =>
    simp only [doCharacterCompletion] at d
    split at d
    · cases d
    · next a u sampled =>
      split at d <;> cases d
      have at_sample : MotorTimersOk u := by rw [atSample_frame sampled]; exact h
      exact loadIdle (of_motor at_sample (by rw [countCharacter_frame, wruLookup_frame, echoResult_frame]; simp))
  case claimWithdrawn => rw [doClaimWithdrawn_frame d]; exact h
  case breakThresholdReached => rw [doBreakThreshold_frame d]; exact h
  case clearThresholdReached => rw [doClearThreshold_frame d]; exact h
  case callConfirmed => rw [doCallConfirmed_frame d]; exact h
  case originateTimeout => rw [doOriginateTimeout_frame d]; exact h
  case clearTimerExpiry => rw [doClearTimerExpiry_frame d]; exact h
  case characterBegin => rw [doCharacterBegin_frame d]; exact h
  case characterEnd =>
    simp only [doCharacterEnd] at d
    split at d <;> cases d
    split
    · exact loadIdle h
    · exact sequenceDone (loadIdle h)
  case breakBegin => rw [doBreakBegin_frame d]; exact h
  case breakEnd => rw [doBreakEnd_frame d]; exact h
  case repeatTimerExpiry => rw [doRepeat_frame d]; exact h
  case printTake => rw [doPrintTake_frame d]; exact h
  case wheelTravelBegin =>
    simp only [doWheelTravel] at d
    repeat' split at d
    all_goals cases d
    exact loadIdle h
  case printActionBegin =>
    obtain ⟨u, begun, rfl⟩ := Option.map_eq_some_iff.1 d
    exact printGoesOn (beginHeld begun h)
  case implicitNewlineBegin =>
    simp only [doImplicitNewline] at d
    repeat' split at d
    all_goals cases d
    exact beginFeeds 1 (loadIdle h)
  case implicitReturnBegin =>
    simp only [doImplicitReturn] at d
    repeat' split at d
    all_goals cases d
    exact loadIdle h
  case wheelStepEnd => rw [doWheelStep_frame d]; exact h
  case strikeComplete =>
    simp only [doStrikeComplete] at d
    split at d <;> cases d
    split
    · exact loadIdle h
    · exact h
  case advanceComplete => rw [doAdvanceComplete_frame d]; exact h
  case returnComplete => rw [doReturnComplete_frame d]; exact h
  case lineFeedComplete =>
    simp only [doLineFeedComplete] at d
    split at d <;> cases d
    exact beginFeeds _ h
  case punchTake => rw [doPunchTake_frame d]; exact h
  case blankCycleBegin =>
    simp only [doBlankCycle] at d
    split at d <;> cases d
    exact beginWork _ h
  case punchActionBegin =>
    obtain ⟨u, begun, rfl⟩ := Option.map_eq_some_iff.1 d
    exact punchGoesOn (beginPunchHeld begun h)
  case punchStepComplete =>
    simp only [doPunchStep] at d
    repeat' split at d
    all_goals cases d
    all_goals first | exact h | exact beginWork _ h
  case motorRunupStart =>
    simp only [doRunupStart] at d
    split at d <;> cases d
    exact beginRunup s
  case runupTimeout =>
    simp only [doRunupTimeout] at d
    repeat' split at d
    all_goals cases d
    exact enterFault _
  case idleCountdownExpiry =>
    simp only [doIdleExpiry] at d
    repeat' split at d
    all_goals cases d
    · exact stopMotor _
    · exact loadIdle h
  case senseDebouncedChange => exact doDebounced d h
  case ringBegin => rw [doRingBegin_frame d]; exact h
  case ringEnd => rw [doRingEnd_frame d]; exact h
  case gapEnd => rw [doGapEnd_frame d]; exact h

theorem step_keeps {s t : State} (h : MotorTimersOk s) (d : step s = .next t) : MotorTimersOk t :=
  inert.step_keeps (fun rate s _ => of_reset (by simp [powerOn, State.reset]))
    (fun _ _ _ => records) (fun _ _ _ h d => by rw [doMarkToSpace_frame d]; exact h)
    (fun _ _ _ h d => by rw [doSpaceToMark_frame d]; exact h)
    (fun k c s h => by rw [readKeyNow_frame]; exact h) (fun _ _ _ _ => own) h d

end MotorTimersOk

/-- Settles O58: the four invariants, each kept by every step. -/
theorem stationStaysConsistent : Obligations.StationStaysConsistent := by
  unfold Obligations.StationStaysConsistent
  rintro s t ⟨attached, held, halted, motor⟩ next
  exact ⟨storeClosed_attachedByMode.step_keeps attached next, storeClosed_heldThrough.step_keeps held next,
    storeClosed_haltedHoldNothing.step_keeps halted next, motor.step_keeps next⟩

end Sys2Proof.Machine
end

section
/-! Every step keeps the unread counts within the rings and what is unread retained (R5, R6, R9 to R13, R17, R18). The
claim O56. -/

namespace Sys2Proof.Machine

/-! ## The unread count under the operations of the store -/

theorem unread_of_store {s t : State} (store : t.store = s.store) (c : CursorId) : unread t c = unread s c := by
  simp only [unread, State.ring, State.cursor, store]

@[simp] theorem unread_setCursor_same (c : CursorId) (v : Cursor) (s : State) :
    unread (s.setCursor c v) c = ((s.ring c.ring).w - v.r).toNat := by
  rw [unread, setCursor_ring, setCursor_cursor_same]

theorem unread_setCursor_other {c d : CursorId} (ne : d ≠ c) (v : Cursor) (s : State) :
    unread (s.setCursor c v) d = unread s d := by
  rw [unread, setCursor_ring, setCursor_cursor_other ne, unread]

/-- R set n back from W leaves n unread. -/
theorem toNat_sub_ofNat_sub (w : BitVec 32) {n : Nat} (h : n < 2 ^ 32) : (w - (w - BitVec.ofNat 32 n)).toNat = n := by
  rw [show w - (w - BitVec.ofNat 32 n) = BitVec.ofNat 32 n by bv_omega, BitVec.toNat_ofNat, Nat.mod_eq_of_lt h]

theorem unread_setUnread_same (c : CursorId) {n : Nat} (s : State) (h : n < 2 ^ 32) :
    unread (setUnread c n s) c = n := by
  rw [setUnread, unread_setCursor_same, toNat_sub_ofNat_sub _ h]

theorem unread_setUnread_other {c d : CursorId} (ne : d ≠ c) (n : Nat) (s : State) :
    unread (setUnread c n s) d = unread s d :=
  unread_setCursor_other ne _ s

/-- R moved on by no more than is unread leaves the rest unread (R17, R19). -/
theorem unread_advanceCursor_same (c : CursorId) {n : Nat} (s : State) (h : n ≤ unread s c) :
    unread (advanceCursor c n s) c = unread s c - n := by
  rw [advanceCursor, unread_setCursor_same]
  unfold unread at h ⊢
  bv_omega

theorem unread_advanceCursor_other {c d : CursorId} (ne : d ≠ c) (n : Nat) (s : State) :
    unread (advanceCursor c n s) d = unread s d :=
  unread_setCursor_other ne _ s

theorem unread_testLockOn (i : RingId) (s : State) (c : CursorId) : unread (testLockOn i s) c = unread s c :=
  unread_of_store (by simp) c

/-- A lap leaves a whole length unread (R9, R11). -/
theorem unread_lapCursor_same (c : CursorId) (n : Nat) (s : State) (h : (s.ring c.ring).len < 2 ^ 32) :
    unread (lapCursor c n s) c = (s.ring c.ring).len :=
  (unread_setCursor_same c _ s).trans (toNat_sub_ofNat_sub _ h)

theorem unread_lapCursor_other {c d : CursorId} (ne : d ≠ c) (n : Nat) (s : State) :
    unread (lapCursor c n s) d = unread s d :=
  unread_setCursor_other ne _ s

/-- After a TRAFFIC write an attached cursor has no more than the length unread (R11). -/
theorem unread_lapIfOver_same (c : CursorId) (s : State) (h : (s.ring c.ring).len < 2 ^ 32) :
    unread (lapIfOver c s) c =
      if (s.cursor c).attached then min (s.ring c.ring).len (unread s c) else unread s c := by
  unfold lapIfOver
  cases attached : (s.cursor c).attached with
  | false => rfl
  | true =>
    simp only [Bool.true_and, decide_eq_true_eq, if_true]
    split
    · rw [unread_lapCursor_same c 1 s h]
      omega
    · omega

theorem unread_lapIfOver_other {c d : CursorId} (ne : d ≠ c) (s : State) : unread (lapIfOver c s) d = unread s d := by
  unfold lapIfOver
  split
  · exact unread_lapCursor_other ne 1 s
  · rfl

/-- A write adds one to what its ring's cursors have unread (R4, R6). -/
theorem unread_appendEntry_same {c : CursorId} {i : RingId} (mine : c.ring = i) (e : Entry) (s : State)
    (h : unread s c + 1 < 2 ^ 32) : unread (appendEntry i e s) c = unread s c + 1 := by
  subst mine
  rw [unread, appendEntry_ring_same, appendEntry_cursor]
  unfold unread at h ⊢
  simp only [Ring.advance]
  bv_omega

theorem unread_appendEntry_other {c : CursorId} {i : RingId} (other : c.ring ≠ i) (e : Entry) (s : State) :
    unread (appendEntry i e s) c = unread s c := by
  rw [unread, appendEntry_ring_other other, appendEntry_cursor, unread]

/-! ## What is unread is retained -/

/-- What the cursor has unread is retained, where that is claimed of it (R5, R6). -/
def RetainsUnread (s : State) (c : CursorId) : Prop :=
  ((s.cursor c).attached = true ∨ (s.ring c.ring).filled = false) → unread s c ≤ (s.ring c.ring).retained

/-- While its ring has not wrapped, there is room for the return of an entry held (R18). -/
def ReturnFits (s : State) (held : Option Held) : Prop :=
  ∀ h, held = some h → h.moved = false → (s.ring h.cursor.ring).filled = false →
    unread s h.cursor < (s.ring h.cursor.ring).w.toNat

theorem unreadRetained_iff (s : State) :
    UnreadRetained s ↔ (∀ c, RetainsUnread s c) ∧ ReturnFits s s.printer.held ∧ ReturnFits s s.punch.held := by
  constructor
  · rintro ⟨cursors, held⟩
    exact ⟨cursors, fun h eq => held h (.inl eq), fun h eq => held h (.inr eq)⟩
  · rintro ⟨cursors, printer, punch⟩
    exact ⟨cursors, fun h eq => eq.elim (printer h) (punch h)⟩

theorem ReturnFits.none (s : State) : ReturnFits s none := nofun

/-- A state whose cursors have no more unread, with the same rings. -/
theorem RetainsUnread.of_le {s t : State} {c : CursorId} (h : RetainsUnread s c) (ring : t.ring c.ring = s.ring c.ring)
    (attached : (t.cursor c).attached = true → (s.cursor c).attached = true) (le : unread t c ≤ unread s c) :
    RetainsUnread t c := fun claimed => by
  rw [ring] at claimed ⊢
  exact le.trans (h (claimed.imp_left attached))

theorem ReturnFits.of_le {s t : State} {held : Option Held} (h : ReturnFits s held) (ring : ∀ i, t.ring i = s.ring i)
    (le : ∀ h, held = some h → unread t h.cursor ≤ unread s h.cursor) : ReturnFits t held := fun x eq moved unfilled => by
  rw [ring] at unfilled ⊢
  exact (le x eq).trans_lt (h x eq moved unfilled)

theorem unreadRetained_of_le {s t : State} (h : UnreadRetained s) (cells : SameCells s t)
    (attached : ∀ c, (t.cursor c).attached = true → (s.cursor c).attached = true)
    (le : ∀ c, unread t c ≤ unread s c) (printer : t.printer.held = s.printer.held ∨ t.printer.held = none)
    (punch : t.punch.held = s.punch.held ∨ t.punch.held = none) : UnreadRetained t := by
  obtain ⟨cursors, ofPrinter, ofPunch⟩ := (unreadRetained_iff s).1 h
  refine (unreadRetained_iff t).2 ⟨fun c => (cursors c).of_le (cells.ring _) (attached c) (le c), ?_, ?_⟩
  · rcases printer with same | empty
    · exact same ▸ ofPrinter.of_le cells.ring fun _ _ => le _
    · exact empty ▸ .none t
  · rcases punch with same | empty
    · exact same ▸ ofPunch.of_le cells.ring fun _ _ => le _
    · exact empty ▸ .none t

/-- Nothing unread and nothing held: in order whatever the rings are. -/
theorem unreadRetained_of_read {s : State} (read : ∀ c, unread s c = 0) (printer : s.printer.held = none)
    (punch : s.punch.held = none) : UnreadRetained s := by
  refine (unreadRetained_iff s).2 ⟨fun c _ => by simp [read c], ?_, ?_⟩
  · exact printer ▸ .none s
  · exact punch ▸ .none s

/-! ## Returns (R18) -/

section
variable {s : State} {h : Held}

/-- A return adds one to what its cursor has unread, where the entry is still to be returned and its cell has not been
rewritten (R18). -/
theorem unread_returnEntry_same (h : Held) (s : State) (small : (s.ring h.cursor.ring).len < 2 ^ 32) :
    unread (returnEntry h s) h.cursor =
      if h.moved = false ∧ unread s h.cursor + 1 ≤ (s.ring h.cursor.ring).len then unread s h.cursor + 1
      else unread s h.cursor := by
  unfold returnEntry
  split
  · next moved => simp [moved]
  · next moved =>
    split
    · next room =>
      rw [if_pos ⟨by simpa using moved, room⟩, unread_setCursor_same]
      unfold unread at room ⊢
      bv_omega
    · next room =>
      rw [if_neg fun both => room both.2]
      exact unread_setCursor_same _ _ s

theorem unread_returnEntry_other {d : CursorId} (ne : d ≠ h.cursor) : unread (returnEntry h s) d = unread s d := by
  unfold returnEntry
  repeat' split
  · rfl
  · exact unread_setCursor_other ne _ s
  · exact unread_setCursor_other ne _ s

end

theorem Ring.len_lt {r : Ring} (ok : r.ok) : r.len < 2 ^ 32 := by
  have := ok.2.1
  omega

theorem retains_returnEntry {s : State} (ok : StoreOk s) {h : Held} (cursors : ∀ c, RetainsUnread s c)
    (fits : ReturnFits s (some h)) (c : CursorId) : RetainsUnread (returnEntry h s) c := by
  obtain ⟨_, rings, _⟩ := (storeOk_iff s).1 ok
  intro claimed
  rw [(sameCells_returnEntry h s).ring, sameFlags_returnEntry h s c] at claimed
  rw [(sameCells_returnEntry h s).ring]
  by_cases mine : c = h.cursor
  · subst mine
    rw [unread_returnEntry_same h s (Ring.len_lt (rings _))]
    split
    · next back =>
      cases filled : (s.ring h.cursor.ring).filled with
      | true => rw [Ring.retained, filled]; exact back.2
      | false => rw [Ring.retained, filled]; exact fits h rfl back.1 filled
    · exact cursors _ claimed
  · rw [unread_returnEntry_other mine]
    exact cursors _ claimed

theorem returnFits_returnEntry {s : State} {h : Held} {held : Option Held} (fits : ReturnFits s held)
    (other : ∀ x, held = some x → x.cursor ≠ h.cursor) : ReturnFits (returnEntry h s) held :=
  fits.of_le (sameCells_returnEntry h s).ring fun x eq => (unread_returnEntry_other (other x eq)).le

/-- The printer and the punch never hold entries of one cursor. -/
theorem HeldThrough.cursors_ne {s : State} (through : HeldThrough s) {h x : Held} (printer : s.printer.held = some h)
    (punch : s.punch.held = some x) : h.cursor ≠ x.cursor := by
  have reads := through.1 h printer
  have also := through.2 x punch
  unfold printCursor at reads
  unfold punchCursor at also
  rw [reads]
  intro same
  rw [← same] at also
  split at also <;> split at also <;> simp at also

theorem unreadRetained_returnPrinterHeld {s : State} (ok : StoreOk s) (through : HeldThrough s)
    (h : UnreadRetained s) : UnreadRetained (returnPrinterHeld s) := by
  obtain ⟨cursors, printer, punch⟩ := (unreadRetained_iff s).1 h
  unfold returnPrinterHeld
  split
  · exact h
  · next x held =>
    rw [held] at printer
    refine (unreadRetained_iff _).2 ⟨retains_returnEntry ok cursors printer, .none _, ?_⟩
    have same : ((returnEntry x s).setPrinter { s.printer with held := none }).punch = s.punch := by simp
    rw [same]
    exact returnFits_returnEntry punch fun y also => (through.cursors_ne held also).symm

theorem unreadRetained_returnPunchHeld {s : State} (ok : StoreOk s) (through : HeldThrough s)
    (h : UnreadRetained s) : UnreadRetained (returnPunchHeld s) := by
  obtain ⟨cursors, printer, punch⟩ := (unreadRetained_iff s).1 h
  unfold returnPunchHeld
  split
  · exact h
  · next x held =>
    rw [held] at punch
    refine (unreadRetained_iff _).2 ⟨retains_returnEntry ok cursors punch, ?_, .none _⟩
    have same : ((returnEntry x s).setPunch { s.punch with held := none }).printer = s.printer := by simp
    rw [same]
    exact returnFits_returnEntry printer fun y also => through.cursors_ne also held

/-! ## Takes (R17) -/

/-- A take leaves one less unread, and room for its return. -/
theorem unreadRetained_takeEntry {s t : State} {c : CursorId} {e : Entry} (h : UnreadRetained s)
    (taken : takeEntry c s = some (e, t)) :
    UnreadRetained t ∧ ReturnFits t (some { entry := e, cursor := c, moved := false }) := by
  obtain ⟨found, rfl⟩ := takeEntry_eq taken
  have some_unread : 1 ≤ unread s c := by
    by_contra zero
    rw [show unread s c = 0 by omega, entryBack_zero] at found
    cases found
  have retained : unread s c ≤ (s.ring c.ring).retained := by
    by_contra beyond
    rw [entryBack_beyond (by omega)] at found
    cases found
  have same : unread (testLockOn c.ring (advanceCursor c 1 s)) c = unread s c - 1 := by
    rw [unread_testLockOn, unread_advanceCursor_same c s some_unread]
  have cells : SameCells s (testLockOn c.ring (advanceCursor c 1 s)) :=
    SameCells.trans ⟨rfl, rfl⟩ (sameCells_testLockOn _ _)
  refine ⟨unreadRetained_of_le h cells (fun d attached => ?_) (fun d => ?_) (.inl (by simp [advanceCursor]))
    (.inl (by simp [advanceCursor])), ?_⟩
  · rwa [sameFlags_testLockOn _ _ d, sameFlags_advanceCursor c 1 s d] at attached
  · by_cases mine : d = c
    · subst mine
      omega
    · rw [unread_testLockOn, unread_advanceCursor_other mine]
  · rintro x eq - unfilled
    cases eq
    simp only at unfilled ⊢
    rw [cells.ring] at unfilled ⊢
    rw [same]
    rw [Ring.retained, unfilled] at retained
    simp only [Bool.false_eq_true, if_false] at retained
    omega

theorem unreadRetained_doPrintTake {s t : State} (h : UnreadRetained s) (d : doPrintTake s = some t) :
    UnreadRetained t := by
  simp only [doPrintTake] at d
  repeat' split at d
  all_goals cases d
  next e u taken =>
    obtain ⟨after, fits⟩ := unreadRetained_takeEntry h taken
    obtain ⟨cursors, _, punch⟩ := (unreadRetained_iff u).1 after
    exact (unreadRetained_iff _).2 ⟨cursors, fits, punch⟩

theorem unreadRetained_takeForPunch (n : Nat) (c : CursorId) {s : State} (h : UnreadRetained s) :
    UnreadRetained (takeForPunch n c s) := by
  induction n generalizing s with
  | zero => exact h
  | succ n ih =>
    simp only [takeForPunch]
    split
    · exact h
    · next e u taken =>
      obtain ⟨after, fits⟩ := unreadRetained_takeEntry h taken
      split
      · exact ih after
      · obtain ⟨cursors, printer, _⟩ := (unreadRetained_iff u).1 after
        exact (unreadRetained_iff _).2 ⟨cursors, printer, fits⟩

theorem unreadRetained_doPunchTake {s t : State} (h : UnreadRetained s) (d : doPunchTake s = some t) :
    UnreadRetained t := by
  simp only [doPunchTake] at d
  repeat' split at d
  all_goals cases d
  exact unreadRetained_takeForPunch _ _ h

/-! ## Attachments (R9, R163) -/

/-- An attachment leaves at most the length unread (R9). -/
theorem unread_attachCursor_same (c : CursorId) (s : State) (small : (s.ring c.ring).len < 2 ^ 32) :
    unread (attachCursor c s) c =
      if (s.cursor c).attached then unread s c else min (s.ring c.ring).len (unread s c) := by
  simp only [attachCursor]
  split
  · rfl
  · rw [unread_setCursor_same]
    split
    · refine (unread_lapCursor_same c (unread s c - (s.ring c.ring).len) s small).trans ?_
      omega
    · rw [min_eq_right (by omega)]
      rfl

theorem unread_attachCursor_other {c d : CursorId} (ne : d ≠ c) (s : State) :
    unread (attachCursor c s) d = unread s d := by
  simp only [attachCursor]
  split
  · rfl
  · rw [unread_setCursor_other ne]
    split
    · exact unread_lapCursor_other ne _ s
    · rfl

theorem unread_attachCursor_le (c : CursorId) (s : State) (ok : StoreOk s) (d : CursorId) :
    unread (attachCursor c s) d ≤ unread s d := by
  obtain ⟨_, rings, _⟩ := (storeOk_iff s).1 ok
  by_cases mine : d = c
  · subst mine
    rw [unread_attachCursor_same d s (Ring.len_lt (rings _))]
    split <;> omega
  · exact (unread_attachCursor_other mine s).le

/-- An attachment brings its cursor within what the ring retains (R9). -/
theorem retains_attachCursor {s : State} (ok : StoreOk s) (c : CursorId) (cursors : ∀ d, RetainsUnread s d)
    (d : CursorId) : RetainsUnread (attachCursor c s) d := by
  obtain ⟨_, rings, _⟩ := (storeOk_iff s).1 ok
  by_cases mine : d = c
  · subst mine
    cases attached : (s.cursor d).attached with
    | true => rw [attachCursor, if_pos attached]; exact cursors d
    | false =>
      intro _
      rw [(sameCells_attachCursor d s).ring, unread_attachCursor_same d s (Ring.len_lt (rings _)), attached]
      simp only [Bool.false_eq_true, if_false]
      cases filled : (s.ring d.ring).filled with
      | true =>
        rw [Ring.retained, filled]
        exact min_le_left _ _
      | false => exact (min_le_right _ _).trans (cursors d (.inr filled))
  · refine (cursors d).of_le ((sameCells_attachCursor c s).ring _) (fun attached => ?_)
      (unread_attachCursor_le c s ok d)
    rwa [attachCursor_attached, if_neg mine] at attached

theorem unreadRetained_attachCursor {s : State} (ok : StoreOk s) (c : CursorId) (h : UnreadRetained s) :
    UnreadRetained (attachCursor c s) := by
  obtain ⟨cursors, printer, punch⟩ := (unreadRetained_iff s).1 h
  have le (d : CursorId) := unread_attachCursor_le c s ok d
  have ring := (sameCells_attachCursor c s).ring
  refine (unreadRetained_iff _).2 ⟨retains_attachCursor ok c cursors, ?_, ?_⟩
  · rw [show (attachCursor c s).printer = s.printer by simp]
    exact printer.of_le ring fun x _ => le x.cursor
  · rw [show (attachCursor c s).punch = s.punch by simp]
    exact punch.of_le ring fun x _ => le x.cursor

theorem sameCells_detachCursor (c : CursorId) (s : State) : SameCells s (detachCursor c s) := ⟨rfl, rfl⟩

theorem unread_detachCursor (c : CursorId) (s : State) (d : CursorId) : unread (detachCursor c s) d = unread s d := by
  by_cases mine : d = c
  · subst mine
    exact unread_setCursor_same d _ s
  · exact unread_setCursor_other mine _ s

theorem unreadRetained_detachCursor (c : CursorId) {s : State} (h : UnreadRetained s) :
    UnreadRetained (detachCursor c s) := by
  refine unreadRetained_of_le h (sameCells_detachCursor c s) (fun d attached => ?_)
    (fun d => (unread_detachCursor c s d).le) (.inl (by simp)) (.inl (by simp))
  rw [detachCursor_attached] at attached
  split at attached
  · cases attached
  · exact attached

/-- Neither the modes nor the engines' counts are looked at. -/
theorem unreadRetained_of_store {s t : State} (h : UnreadRetained s) (store : t.store = s.store)
    (printer : t.printer.held = s.printer.held ∨ t.printer.held = none)
    (punch : t.punch.held = s.punch.held ∨ t.punch.held = none) : UnreadRetained t :=
  unreadRetained_of_le h (.of_store store) (fun c attached => by rwa [SameFlags.of_store store c] at attached)
    (fun c => (unread_of_store store c).le) printer punch

theorem unreadRetained_changeStation {s : State} (m : StationMode) (ok : StoreOk s) (through : HeldThrough s)
    (h : UnreadRetained s) : UnreadRetained (changeStation m s) := by
  simp only [changeStation]
  split
  · exact h
  · have returned := unreadRetained_returnPrinterHeld ok through h
    have detached := unreadRetained_detachCursor s.modes.station.cursor returned
    have still := (sameCells_detachCursor s.modes.station.cursor _).storeOk
      ((sameCells_returnPrinterHeld s).storeOk ok)
    exact unreadRetained_of_store (unreadRetained_attachCursor still m.cursor detached) (by simp) (.inl (by simp))
      (.inl (by simp))

theorem unreadRetained_leaveSource {s : State} (c : Option CursorId) (h : UnreadRetained s) :
    UnreadRetained (leaveSource c s) := by
  cases c with
  | none => exact h
  | some c =>
    exact unreadRetained_of_store (unreadRetained_detachCursor c h) (by simp [leaveSource]) (.inl (by simp))
      (.inl (by simp))

theorem unreadRetained_changeSource {s : State} (m : PunchSource) (ok : StoreOk s) (through : HeldThrough s)
    (h : UnreadRetained s) : UnreadRetained (changeSource m s) := by
  simp only [changeSource]
  split
  · exact h
  · have left := unreadRetained_leaveSource s.modes.source.cursor (unreadRetained_returnPunchHeld ok through h)
    have still := (sameCells_leaveSource s.modes.source.cursor _).storeOk ((sameCells_returnPunchHeld s).storeOk ok)
    cases m with
    | off => exact unreadRetained_of_store left rfl (.inl rfl) (.inl rfl)
    | traffic =>
      exact unreadRetained_of_store (unreadRetained_attachCursor still .punchT left) rfl (.inl rfl) (.inl rfl)
    | loc => exact unreadRetained_of_store (unreadRetained_attachCursor still .punchL left) rfl (.inl rfl) (.inl rfl)

theorem sameCells_setCursor (c : CursorId) (v : Cursor) (s : State) : SameCells s (s.setCursor c v) := ⟨rfl, rfl⟩

theorem unreadRetained_setCursor_punchT {s : State} {r : BitVec 32} (h : UnreadRetained s) (through : HeldThrough s)
    (empty : s.punch.held = none) (retained : ((s.ring .traffic).w - r).toNat ≤ (s.ring .traffic).retained) :
    UnreadRetained (s.setCursor .punchT { s.cursor .punchT with r := r }) := by
  obtain ⟨cursors, printer, _⟩ := (unreadRetained_iff s).1 h
  refine (unreadRetained_iff _).2 ⟨fun c => ?_, ?_, ?_⟩
  · by_cases mine : c = .punchT
    · subst mine
      exact fun _ => (unread_setCursor_same .punchT _ s).trans_le retained
    · exact (cursors c).of_le rfl (by rw [setCursor_cursor_other mine]; exact id) (unread_setCursor_other mine _ s).le
  · refine printer.of_le (fun _ => rfl) fun x held => (unread_setCursor_other (fun same => ?_) _ s).le
    have reads := through.1 x held
    rw [same] at reads
    unfold printCursor at reads
    split at reads <;> cases reads
  · exact fun x held => absurd (empty.symm.trans held) nofun

/-- PUNCH-T is brought to where PRINT-P stands, which is within what TRAFFIC retains (R163). -/
theorem unreadRetained_divertPunch {s : State} (ok : StoreOk s) (through : HeldThrough s) (h : UnreadRetained s) :
    UnreadRetained (divertPunch s) := by
  cases due : divertDue s with
  | false => rwa [divertPunch_idle due]
  | true =>
    obtain ⟨cursors, printer, _⟩ := (unreadRetained_iff s).1 h
    have off : s.modes.source = .off := by simp [divertDue] at due; exact due.1.1.2
    have attached : (s.cursor .printP).attached = true := by simp [divertDue] at due; exact due.1.1.1
    have empty : s.punch.held = none := by
      cases held : s.punch.held with
      | none => rfl
      | some x => exact absurd (through.2 x held) (by simp [punchCursor, off])
    let u := s.setModes { s.modes with source := .traffic }
    have moved := unreadRetained_setCursor_punchT (s := u) (r := (s.cursor .printP).r)
      (unreadRetained_of_store h rfl (.inl rfl) (.inl rfl))
      ⟨through.1, fun x held => absurd (empty.symm.trans held) nofun⟩ empty (cursors .printP (.inl attached))
    have joined := unreadRetained_attachCursor ((sameCells_setCursor .punchT _ u).storeOk ok) .punchT moved
    rw [divertPunch, if_pos due]
    exact unreadRetained_of_store joined rfl (.inl rfl) (.inl rfl)

end Sys2Proof.Machine
end

section
/-! The unread counts under the writes into the rings, the host's reads and moves and the resets (R4, R10 to R13, R19,
R21, R25), and the claim O56. -/

namespace Sys2Proof.Machine

/-! ## Writes (R4, R11, R13) -/

section
variable {s : State} (ok : StoreOk s)
include ok

/-- In a ring that has not wrapped the write is one more retained; in a wrapped one all cells stay so. -/
theorem retained_append (i : RingId) :
    (s.ring i).advance.retained = if (s.ring i).filled then (s.ring i).len else (s.ring i).w.toNat + 1 := by
  obtain ⟨_, rings, _⟩ := (storeOk_iff s).1 ok
  cases filled : (s.ring i).filled with
  | true => simp [Ring.retained, Ring.advance, filled]
  | false =>
    have below := (rings i).2.2.2.2.2.1 filled
    have small := Ring.len_lt (rings i)
    by_cases wraps : (s.ring i).w.toNat + 1 = (s.ring i).len <;> simp [Ring.retained, Ring.advance, filled, wraps]
    omega

/-- A write keeps what a cursor has unread retained, where there is room for it. -/
theorem retains_appendEntry (h : UnreadRetained s) (i : RingId) (e : Entry) (c : CursorId)
    (room : c.ring = i → (s.cursor c).attached = true → unread s c < (s.ring i).len) :
    RetainsUnread (appendEntry i e s) c := by
  obtain ⟨cursors, _⟩ := (unreadRetained_iff s).1 h
  obtain ⟨_, rings, _⟩ := (storeOk_iff s).1 ok
  by_cases mine : c.ring = i
  · intro claimed
    have small := Ring.len_lt (rings i)
    have within := Ring.retained_le_len (rings i)
    have before := cursors c
    have w_lt := (rings i).2.2.2.2.2.1
    subst mine
    rw [appendEntry_ring_same] at claimed ⊢
    rw [appendEntry_cursor] at claimed
    rw [retained_append ok]
    cases filled : (s.ring c.ring).filled with
    | true =>
      have attached : (s.cursor c).attached = true := by
        rcases claimed with attached | unfilled
        · exact attached
        · simp [Ring.advance, filled] at unfilled
      have := room rfl attached
      rw [unread_appendEntry_same rfl e s (by omega)]
      simpa using this
    | false =>
      have := before (.inr filled)
      simp only [Ring.retained, filled, Bool.false_eq_true, if_false] at this
      have := w_lt filled
      rw [unread_appendEntry_same rfl e s (by omega)]
      simp only [Bool.false_eq_true, if_false]
      omega
  · exact (cursors c).of_le (appendEntry_ring_other mine e s) (by rw [appendEntry_cursor]; exact id)
      (unread_appendEntry_other mine e s).le

theorem returnFits_appendEntry {held : Option Held} (i : RingId) (e : Entry) (fits : ReturnFits s held) :
    ReturnFits (appendEntry i e s) held := by
  obtain ⟨_, rings, _⟩ := (storeOk_iff s).1 ok
  intro x eq moved unfilled
  by_cases mine : x.cursor.ring = i
  · subst mine
    rw [appendEntry_ring_same] at unfilled ⊢
    have before : (s.ring x.cursor.ring).filled = false := by
      simp only [Ring.advance, Bool.or_eq_false_iff] at unfilled
      exact unfilled.1
    have := fits x eq moved before
    have small := Ring.len_lt (rings x.cursor.ring)
    have w_lt := (rings x.cursor.ring).2.2.2.2.2.1 before
    rw [unread_appendEntry_same rfl e s (by omega)]
    have w := Ring.w_advance_of_unfilled (rings _) before
    simp only [Ring.advance]
    omega
  · rw [appendEntry_ring_other mine] at unfilled ⊢
    rw [unread_appendEntry_other mine]
    exact fits x eq moved unfilled

theorem unreadRetained_appendEntry (h : UnreadRetained s) (i : RingId) (e : Entry)
    (room : ∀ c, c.ring = i → (s.cursor c).attached = true → unread s c < (s.ring i).len) :
    UnreadRetained (appendEntry i e s) := by
  obtain ⟨_, printer, punch⟩ := (unreadRetained_iff s).1 h
  exact (unreadRetained_iff _).2 ⟨fun c => retains_appendEntry ok h i e c (room c),
    returnFits_appendEntry ok i e printer, returnFits_appendEntry ok i e punch⟩

end

theorem sameCells_lapIfOver (c : CursorId) (s : State) : SameCells s (lapIfOver c s) := lapIfOver_store c s

theorem unread_lapIfOver_le (c : CursorId) (s : State) (ok : StoreOk s) (d : CursorId) :
    unread (lapIfOver c s) d ≤ unread s d := by
  obtain ⟨_, rings, _⟩ := (storeOk_iff s).1 ok
  by_cases mine : d = c
  · subst mine
    rw [unread_lapIfOver_same d s (Ring.len_lt (rings _))]
    split <;> omega
  · exact (unread_lapIfOver_other mine s).le

theorem sameFlags_appendEntry (i : RingId) (e : Entry) (s : State) : SameFlags s (appendEntry i e s) :=
  fun c => by rw [appendEntry_cursor]

/-- What a lapping write leaves unread (R11). -/
theorem unread_writeTraffic_le (e : Entry) (s : State) (ok : StoreOk (appendEntry .traffic e s)) (c : CursorId) :
    unread (writeTraffic e s) c ≤ unread (appendEntry .traffic e s) c := by
  have first := (sameCells_lapIfOver .printP _).storeOk ok
  have second := (sameCells_lapIfOver .punchT _).storeOk first
  exact (unread_lapIfOver_le .hostT _ second c).trans
    ((unread_lapIfOver_le .punchT _ first c).trans (unread_lapIfOver_le .printP _ ok c))

/-- A cursor of TRAFFIC that is attached has no more than the length unread after the laps (R11). -/
theorem unread_writeTraffic_le_len (e : Entry) (s : State) (ok : StoreOk (appendEntry .traffic e s)) {c : CursorId}
    (mine : c.ring = .traffic) (attached : (s.cursor c).attached = true) :
    unread (writeTraffic e s) c ≤ (s.ring .traffic).len := by
  have first := (sameCells_lapIfOver .printP _).storeOk ok
  have second := (sameCells_lapIfOver .punchT _).storeOk first
  have lapped (d : CursorId) {u : State} (same : SameFlags s u) (cells : SameCells (appendEntry .traffic e s) u)
      (ok : StoreOk u) (mine : d.ring = .traffic) (attached : (s.cursor d).attached = true) :
      unread (lapIfOver d u) d ≤ (s.ring .traffic).len := by
    obtain ⟨_, rings, _⟩ := (storeOk_iff u).1 ok
    rw [unread_lapIfOver_same d u (Ring.len_lt (rings _)), same d, attached, mine, cells.ring, appendEntry_ring_same]
    exact min_le_left _ _
  have flags := sameFlags_appendEntry .traffic e s
  have flags1 := flags.trans (sameFlags_lapIfOver .printP _)
  have flags2 := flags1.trans (sameFlags_lapIfOver .punchT _)
  have cells1 := sameCells_lapIfOver .printP (appendEntry .traffic e s)
  have cells2 := cells1.trans (sameCells_lapIfOver .punchT _)
  cases c with
  | printP =>
    exact (unread_lapIfOver_le .hostT _ second _).trans ((unread_lapIfOver_le .punchT _ first _).trans
      (lapped .printP flags (.refl _) ok rfl attached))
  | punchT => exact (unread_lapIfOver_le .hostT _ second _).trans (lapped .punchT flags1 cells1 first rfl attached)
  | hostT => exact lapped .hostT flags2 cells2 second rfl attached
  | printA => cases mine
  | punchL => cases mine
  | hostL => cases mine
  | xmit => cases mine

theorem unreadRetained_writeTraffic {s : State} (ok : StoreOk s) {e : Entry} (fits : entryFits .traffic e = true)
    (h : UnreadRetained s) : UnreadRetained (writeTraffic e s) := by
  obtain ⟨cursors, printer, punch⟩ := (unreadRetained_iff s).1 h
  obtain ⟨_, rings, _⟩ := (storeOk_iff s).1 ok
  have written := ok.appendEntry .traffic e fits
  have le := unread_writeTraffic_le e s written
  have ring (i : RingId) : (writeTraffic e s).ring i = (appendEntry .traffic e s).ring i := by
    rw [State.ring, (writeTraffic_cells_rings e s).2]
    rfl
  have flags := sameFlags_writeTraffic e s
  refine (unreadRetained_iff _).2 ⟨fun c => ?_, ?_, ?_⟩
  · by_cases behind : c.ring = .traffic ∧ (s.cursor c).attached = true ∧ (s.ring .traffic).len ≤ unread s c
    · obtain ⟨mine, attached, far⟩ := behind
      intro _
      have bound := unread_writeTraffic_le_len e s written mine attached
      have retained := cursors c (.inl attached)
      have below := (rings .traffic).2.2.2.2.2.1
      rw [mine] at retained
      rw [ring, mine, appendEntry_ring_same, retained_append ok]
      cases filled : (s.ring .traffic).filled with
      | true => exact bound
      | false =>
        have := below filled
        simp only [Ring.retained, filled, Bool.false_eq_true, if_false] at retained
        omega
    · refine (retains_appendEntry ok h .traffic e c fun mine attached => ?_).of_le (ring _) ?_ (le c)
      · exact Nat.lt_of_not_le fun far => behind ⟨mine, attached, far⟩
      · rw [flags c, appendEntry_cursor]
        exact id
  · rw [show (writeTraffic e s).printer = s.printer by simp]
    exact (returnFits_appendEntry ok .traffic e printer).of_le ring fun x _ => le x.cursor
  · rw [show (writeTraffic e s).punch = s.punch by simp]
    exact (returnFits_appendEntry ok .traffic e punch).of_le ring fun x _ => le x.cursor

/-- Text keeps what is unread retained, where it fits (R13, R15). -/
theorem unreadRetained_putText {i : RingId} {o : Origin} (notTraffic : i ≠ .traffic)
    (origin : o = .keyboard ∨ o = .host) (xs : List (Code × Plane)) {s : State} (ok : StoreOk s)
    (h : UnreadRetained s)
    (room : ∀ c, c.ring = i → (s.cursor c).attached = true → unread s c + xs.length ≤ (s.ring i).len) :
    UnreadRetained (putText i o xs s) := by
  induction xs generalizing s with
  | nil => exact h
  | cons x xs ih =>
    obtain ⟨_, rings, _⟩ := (storeOk_iff s).1 ok
    have small := Ring.len_lt (rings i)
    let u := appendEntry i (.char x.1 x.2 (textOrigin i o) none) s
    have store (p : Plane) : (setWriterPlane i p u).store.rings = u.store.rings
        ∧ (setWriterPlane i p u).store.cursors = u.store.cursors ∧ (setWriterPlane i p u).printer = u.printer
        ∧ (setWriterPlane i p u).punch = u.punch := by cases i <;> exact ⟨rfl, rfl, rfl, rfl⟩
    obtain ⟨sameRings, cursors, printer, punch⟩ := store x.2
    have reads (c : CursorId) : unread (setWriterPlane i x.2 u) c = unread u c := by
      simp only [unread, State.ring, State.cursor, sameRings, cursors]
    have written := unreadRetained_appendEntry ok h i (.char x.1 x.2 (textOrigin i o) none)
      fun c mine attached => by have := room c mine attached; simp only [List.length_cons] at this; omega
    refine ih ((sameCells_setWriterPlane _ _ _).storeOk (ok.appendEntry _ _ (entryFits_text notTraffic origin _ _)))
      ?_ fun c mine attached => ?_
    · refine unreadRetained_of_le written (sameCells_setWriterPlane _ _ _) (fun c => ?_) (fun c => (reads c).le)
        (.inl (by rw [printer])) (.inl (by rw [punch]))
      rw [State.cursor, cursors]
      exact id
    · rw [State.cursor, cursors] at attached
      have before : (s.cursor c).attached = true := by rw [← appendEntry_cursor i _ s]; exact attached
      have := room c mine before
      simp only [List.length_cons] at this
      rw [reads, (sameCells_setWriterPlane _ _ _).ring, unread_appendEntry_same mine _ s (by omega),
        appendEntry_ring_same]
      simp only [Ring.advance]
      omega

/-- The unread count of an attached cursor lies within its ring's length, where it is retained. -/
theorem cursorsBound_of_retained {s : State} (ok : StoreOk s) (h : UnreadRetained s) : CursorsBound s :=
  fun c attached => (h.1 c (.inl attached)).trans (Ring.retained_le_len (((storeOk_iff s).1 ok).2.1 _))

/-- What is free of a ring is free behind each of its attached cursors (R13). -/
theorem room_of_freeSpace {s : State} (bound : CursorsBound s) {n : Nat} {i : RingId} (free : n ≤ freeSpace s i)
    (c : CursorId) (mine : c.ring = i) (attached : (s.cursor c).attached = true) :
    unread s c + n ≤ (s.ring i).len := by
  subst mine
  have := unread_le_maxUnread attached
  have := maxUnread_le_len bound c.ring
  unfold freeSpace at free
  omega

/-! ## Reads and moves by the host (R19, R21) -/

theorem entriesFrom_length_le (s : State) (i : RingId) (n j : Nat) : (entriesFrom s i n j).length ≤ n := by
  induction n generalizing j with
  | zero => exact Nat.le_refl 0
  | succ n ih =>
    unfold entriesFrom
    split
    · exact Nat.zero_le _
    · exact Nat.succ_le_succ (ih (j - 1))

theorem unreadRetained_afterTake (c : CursorId) (count : Nat) {s : State} (h : UnreadRetained s) :
    UnreadRetained (afterTake c count s) := by
  have within : (takenEntries c count s).length ≤ unread s c :=
    (entriesFrom_length_le s c.ring _ _).trans (min_le_right _ _)
  refine unreadRetained_of_le h (sameCells_afterTake c count s) (fun d => ?_) (fun d => ?_) (.inl (by simp))
    (.inl (by simp))
  · rw [sameFlags_afterTake c count s d]
    exact id
  · simp only [afterTake]
    split
    · exact le_refl _
    · rw [unread_testLockOn]
      by_cases mine : d = c
      · subst mine
        rw [unread_advanceCursor_same d s within]
        omega
      · exact (unread_advanceCursor_other mine _ s).le

theorem unread_moveCursor (c d : CursorId) (delta : Int) (s : State) :
    unread (moveCursor c delta s) d = unread (setUnread c (movedUnread s c delta) s) d := by
  simp only [moveCursor]
  repeat' split
  all_goals first | rw [unread_testLockOn] | rfl
  all_goals rfl

theorem unreadRetained_moveCursor {s : State} (ok : StoreOk s) (c : CursorId) (delta : Int) (h : UnreadRetained s) :
    UnreadRetained (moveCursor c delta s) := by
  obtain ⟨cursors, printer, punch⟩ := (unreadRetained_iff s).1 h
  obtain ⟨_, rings, _⟩ := (storeOk_iff s).1 ok
  have cells := sameCells_moveCursor c delta s
  have retained : movedUnread s c delta ≤ (s.ring c.ring).retained := min_le_left _ _
  have mine : unread (moveCursor c delta s) c = movedUnread s c delta := by
    rw [unread_moveCursor, unread_setUnread_same]
    have := Ring.retained_le_len (rings c.ring)
    have := Ring.len_lt (rings c.ring)
    omega
  have other {d : CursorId} (ne : d ≠ c) : unread (moveCursor c delta s) d = unread s d := by
    rw [unread_moveCursor, unread_setUnread_other ne]
  -- an entry held keeps its room: its cursor has not moved, or it is marked, or the movement was of nothing
  have returns {held : Option Held} (fits : ReturnFits s held) : ReturnFits (moveCursor c delta s)
      (if movementMade c delta s = 0 then held else held.map (Held.markMoved c)) := by
    intro x eq moved unfilled
    rw [cells.ring] at unfilled ⊢
    split at eq
    · next still =>
      by_cases same : x.cursor = c
      · have := fits x eq moved unfilled
        unfold movementMade at still
        rw [same] at this ⊢
        rw [mine]
        omega
      · rw [other same]
        exact fits x eq moved unfilled
    · obtain ⟨y, was, rfl⟩ := Option.map_eq_some_iff.1 eq
      unfold Held.markMoved at moved unfilled ⊢
      split at moved
      · cases moved
      · next ne =>
        rw [if_neg ne] at unfilled ⊢
        rw [other ne]
        exact fits y was moved unfilled
  have slots : (moveCursor c delta s).printer.held
        = (if movementMade c delta s = 0 then s.printer.held else s.printer.held.map (Held.markMoved c))
      ∧ (moveCursor c delta s).punch.held
        = (if movementMade c delta s = 0 then s.punch.held else s.punch.held.map (Held.markMoved c)) := by
    simp only [moveCursor]
    split <;> split <;> simp [setUnread, markHeld]
  refine (unreadRetained_iff _).2 ⟨fun d => ?_, slots.1 ▸ returns printer, slots.2 ▸ returns punch⟩
  by_cases same : d = c
  · subst same
    intro _
    rw [cells.ring, mine]
    exact retained
  · refine (cursors d).of_le (cells.ring _) ?_ (other same).le
    rw [sameFlags_moveCursor c delta s d]
    exact id

/-! ## The claim -/

/-- The store in order, entries held through the cursors that their engines read, and what is unread retained. -/
structure CursorsKept (s : State) : Prop where
  ok : StoreOk s
  through : HeldThrough s
  retained : UnreadRetained s

theorem storeClosed_cursorsKept : StoreClosed CursorsKept where
  congr h store modes printer punch :=
    ⟨storeClosed_storeOk.congr h.ok store modes printer punch,
      storeClosed_heldThrough.congr h.through store modes printer punch,
      unreadRetained_of_store h.retained store (.inl (by rw [printer])) (.inl (by rw [punch]))⟩
  printer v held halts h :=
    ⟨h.ok, storeClosed_heldThrough.printer v held halts h.through,
        unreadRetained_of_store h.retained rfl held (.inl rfl)⟩
  punch v held halts h :=
    ⟨h.ok, storeClosed_heldThrough.punch v held halts h.through, unreadRetained_of_store h.retained rfl (.inl rfl) held⟩
  haltPrinter set h := by
    refine ⟨storeClosed_storeOk.haltPrinter set h.ok, storeClosed_heldThrough.haltPrinter set h.through, ?_⟩
    unfold haltPrinter
    split
    · exact unreadRetained_of_store h.retained rfl (.inl rfl) (.inl rfl)
    · exact unreadRetained_of_store (unreadRetained_returnPrinterHeld h.ok h.through h.retained) rfl (.inl rfl) (.inl rfl)
  haltPunch set h := by
    refine ⟨storeClosed_storeOk.haltPunch set h.ok, storeClosed_heldThrough.haltPunch set h.through, ?_⟩
    unfold haltPunch
    split
    · exact unreadRetained_of_store h.retained rfl (.inl rfl) (.inl rfl)
    · exact unreadRetained_of_store (unreadRetained_returnPunchHeld h.ok h.through h.retained) rfl (.inl rfl) (.inl rfl)
  printTake d h :=
    ⟨storeClosed_storeOk.printTake d h.ok, storeClosed_heldThrough.printTake d h.through,
      unreadRetained_doPrintTake h.retained d⟩
  punchTake d h :=
    ⟨storeClosed_storeOk.punchTake d h.ok, storeClosed_heldThrough.punchTake d h.through,
      unreadRetained_doPunchTake h.retained d⟩
  sendTake d h :=
    ⟨storeClosed_storeOk.sendTake d h.ok, storeClosed_heldThrough.sendTake d h.through,
      (unreadRetained_takeEntry h.retained d).1⟩
  traffic e fits h :=
    ⟨storeClosed_storeOk.traffic e fits h.ok, storeClosed_heldThrough.traffic e fits h.through,
      unreadRetained_writeTraffic h.ok fits h.retained⟩
  text i o xs notTraffic origin free h :=
    ⟨storeClosed_storeOk.text i o xs notTraffic origin free h.ok,
      storeClosed_heldThrough.text i o xs notTraffic origin free h.through,
      unreadRetained_putText notTraffic origin xs h.ok h.retained
        (room_of_freeSpace (cursorsBound_of_retained h.ok h.retained) free)⟩
  erase free h :=
    ⟨storeClosed_storeOk.erase free h.ok, storeClosed_heldThrough.erase free h.through,
      unreadRetained_appendEntry h.ok h.retained _ _
        (room_of_freeSpace (cursorsBound_of_retained h.ok h.retained) free)⟩
  flags v station source h :=
    ⟨h.ok, storeClosed_heldThrough.flags v station source h.through,
      unreadRetained_of_store h.retained rfl (.inl rfl) (.inl rfl)⟩
  station m h :=
    ⟨storeClosed_storeOk.station m h.ok, storeClosed_heldThrough.station m h.through,
      unreadRetained_changeStation m h.ok h.through h.retained⟩
  source m h :=
    ⟨storeClosed_storeOk.source m h.ok, storeClosed_heldThrough.source m h.through,
      unreadRetained_changeSource m h.ok h.through h.retained⟩
  divert h :=
    ⟨storeClosed_storeOk.divert h.ok, storeClosed_heldThrough.divert h.through,
      unreadRetained_divertPunch h.ok h.through h.retained⟩
  read c count host h :=
    ⟨storeClosed_storeOk.read c count host h.ok, storeClosed_heldThrough.read c count host h.through,
      unreadRetained_afterTake c count h.retained⟩
  move c delta h :=
    ⟨storeClosed_storeOk.move c delta h.ok, storeClosed_heldThrough.move c delta h.through,
      unreadRetained_moveCursor h.ok c delta h.retained⟩
  attach c host h :=
    ⟨storeClosed_storeOk.attach c host h.ok, storeClosed_heldThrough.attach c host h.through,
      unreadRetained_attachCursor h.ok c h.retained⟩
  detach {s} c host h := by
    refine ⟨storeClosed_storeOk.detach c host h.ok, storeClosed_heldThrough.detach c host h.through, ?_⟩
    unfold detachHost
    split
    · exact unreadRetained_of_store (unreadRetained_detachCursor c h.retained) (by simp) (.inl (by simp))
        (.inl (by simp))
    · exact h.retained
  cancel {s} h := by
    refine ⟨storeClosed_storeOk.cancel h.ok, storeClosed_heldThrough.cancel h.through, ?_⟩
    refine unreadRetained_of_le h.retained (sameCells_cancelText s) (fun c => ?_) (fun c => ?_) (.inl (by simp))
      (.inl (by simp))
    · rw [sameFlags_cancelText s c]
      exact id
    · have planes : unread (cancelText s) c = unread (setUnread .xmit 0 s) c := by
        rw [cancelText, unread_testLockOn]
        rfl
      rw [planes]
      by_cases mine : c = .xmit
      · subst mine
        rw [unread_setUnread_same .xmit s (by decide)]
        exact Nat.zero_le _
      · exact (unread_setUnread_other mine 0 s).le
  layout {s} tb tl sb sl lb ll ready fits h := by
    refine ⟨storeClosed_storeOk.layout _ _ _ _ _ _ ready fits h.ok,
      storeClosed_heldThrough.layout _ _ _ _ _ _ ready fits h.through, unreadRetained_of_read (fun c => ?_) ?_ ?_⟩
    · exact unread_of_rewound (s := layOut tb tl sb sl lb ll s) (by simp [layOut, resetRings]; rfl) c
    · simp [layoutReady] at ready
      simp [ready]
    · simp [layoutReady] at ready
      simp [ready]
  restart {s} h := by
    refine ⟨storeClosed_storeOk.restart h.ok, storeClosed_heldThrough.restart h.through,
      unreadRetained_of_read (fun c => ?_) (restartAll_slots s).1 (restartAll_slots s).2⟩
    exact unread_of_rewound (s := restartAll s) (st := s.store) (by rw [restartAll_store]; simp [resetRings]) c
  power {s} rate := by
    refine ⟨storeClosed_storeOk.power rate, storeClosed_heldThrough.power rate,
      unreadRetained_of_read (fun c => ?_) (powerOn_slots rate s).1 (powerOn_slots rate s).2⟩
    have store : (powerOn rate s).store = .powerOn := by simp [powerOn, State.reset]
    rw [unread_of_store (s := State.reset) store c]
    cases c <;> rfl

/-- Settles O56. -/
theorem cursorsStayBound : Obligations.CursorsStayBound := by
  unfold Obligations.CursorsStayBound
  rintro s t ok through ⟨_, retained⟩ next
  have kept := storeClosed_cursorsKept.step_keeps ⟨ok, through, retained⟩ next
  exact ⟨cursorsBound_of_retained kept.ok kept.retained, kept.retained⟩

end Sys2Proof.Machine
end

section
/-! Every step keeps the line consistent (R67, R68, R71 to R73, R77, R83, R95, R98). The claim O57. -/

namespace Sys2Proof.Machine

/-- The line state, its marker, its timers and the sequencer agree. -/
def LineConsistent (s : State) : Prop :=
  MarkerFollowsLine s ∧ ClearSpacingOk s ∧ CallTimersOk s ∧ SequencerFollowsLine s

namespace LineConsistent

theorem of_eq {s t : State} (h : LineConsistent s) (controller : t.controller = s.controller)
    (state : t.transmitter.state = s.transmitter.state)
    (sequencer : t.transmitter.sequencer = s.transmitter.sequencer) : LineConsistent t := by
  simp only [LineConsistent, MarkerFollowsLine, ClearSpacingOk, CallTimersOk, SequencerFollowsLine, controller, state,
    sequencer] at h ⊢
  exact h

theorem inert : Inert LineConsistent where
  now _ _ h := h
  ticket _ _ h := h
  pending _ _ h := h
  ahead _ _ h := h
  link _ _ h := h
  events _ _ h := h
  sense _ _ h := h

/-! ## What a line state says of the timers and of the sequencer -/

/-- No timer of a call or of a clear spacing runs, and no call is being made. -/
structure Untimed (s : State) : Prop where
  confirm : s.controller.confirmTimer = none
  originate : s.controller.originate = false
  timer : s.controller.originateTimer = .stopped
  clear : s.controller.clearTimer = none
  spacing : s.transmitter.state ≠ .clearSpacing

theorem Untimed.of_eq {s t : State} (h : Untimed s) (controller : t.controller = s.controller)
    (state : t.transmitter.state = s.transmitter.state) : Untimed t := by
  obtain ⟨h1, h2, h3, h4, h5⟩ := h
  constructor <;> simp only [controller, state] <;> assumption

section
variable {s : State} (h : LineConsistent s)
include h

theorem not_spacing (notClearing : s.controller.state ≠ .clearing) : s.transmitter.state ≠ .clearSpacing :=
  fun spacing => notClearing (h.2.1.2.1 spacing)

theorem clearTimer_eq_none (notClearing : s.controller.state ≠ .clearing) : s.controller.clearTimer = none := by
  have := h.2.1.1
  have := h.not_spacing notClearing
  cases timer : s.controller.clearTimer <;> simp_all

theorem untimed (notOriginating : s.controller.state ≠ .originating) (notPending : s.controller.state ≠ .callPending)
    (notClearing : s.controller.state ≠ .clearing) : Untimed s where
  confirm := by
    have := h.2.2.1.1
    cases timer : s.controller.confirmTimer <;> simp_all
  originate := by
    have := h.2.2.1.2.1
    simp_all
  timer := by
    have flag := h.2.2.1.2.1
    have := h.2.2.1.2.2.2
    cases originate : s.controller.originate <;> simp_all
  clear := h.clearTimer_eq_none notClearing
  spacing := h.not_spacing notClearing

/-- Nothing is in the sequencer before a call is established. -/
theorem sequencer_eq_empty (notEstablished : s.controller.state ≠ .established)
    (notRefusing : s.controller.state ≠ .refusing) (notClearing : s.controller.state ≠ .clearing) :
    s.transmitter.sequencer = .empty := by
  have := h.2.2.2
  unfold SequencerFollowsLine at this
  cases q : s.transmitter.sequencer <;> simp_all

end

/-! ## The entries of the connection controller -/

section
variable {s : State}

/-- The entry to FREE (R84). -/
theorem enterFree (marker : MarkerFollowsLine s) (still : s.transmitter.state ≠ .clearSpacing) :
    LineConsistent (enterFree s) := by
  have closed : (Machine.enterFree s).controller.markerOpen = false := by
    unfold Machine.enterFree
    split
    · simp [closeMarker]
      split <;> simp_all
    · next apart =>
      have := marker.2
      simp_all [dropRequests, stopCounter]
  have fields : (Machine.enterFree s).controller.state = .free ∧ (Machine.enterFree s).controller.originate = false
      ∧ (Machine.enterFree s).controller.originateTimer = .stopped
      ∧ (Machine.enterFree s).controller.confirmTimer = none ∧ (Machine.enterFree s).controller.clearTimer = none
      ∧ (Machine.enterFree s).transmitter.sequencer = .empty :=
    ⟨rfl, rfl, rfl, rfl, rfl, rfl⟩
  have state : (Machine.enterFree s).transmitter.state = s.transmitter.state := by
    unfold Machine.enterFree
    split <;> simp [dropRequests, stopCounter]
  simp_all [LineConsistent, MarkerFollowsLine, ClearSpacingOk, CallTimersOk, SequencerFollowsLine, LineState.connected]

/-- The entry to CLEARING (R83). -/
theorem enterClearing (untimed : Untimed s) : LineConsistent (enterClearing s) := by
  obtain ⟨confirm, originate, timer, clear, spacing⟩ := untimed
  rw [enterClearing_eq]
  cases state : s.transmitter.state <;> cases q : s.transmitter.sequencer <;>
    simp_all [LineConsistent, MarkerFollowsLine, ClearSpacingOk, CallTimersOk, SequencerFollowsLine,
        LineState.connected,
      cleared, endedSequencer, TxState.isSending]

/-- The entry to REFUSING (R80). -/
theorem enterRefusing (untimed : Untimed s) (marker : s.controller.markerOpen = true) :
    LineConsistent (enterRefusing s) := by
  unfold Machine.enterRefusing
  simp only
  split
  · exact enterClearing ⟨untimed.confirm, untimed.originate, untimed.timer, untimed.clear, untimed.spacing⟩
  · obtain ⟨confirm, originate, timer, clear, spacing⟩ := untimed
    simp_all [LineConsistent, MarkerFollowsLine, ClearSpacingOk, CallTimersOk, SequencerFollowsLine,
        LineState.connected,
      setLine]

theorem requestAnswerBack (h : LineConsistent s) (line : s.controller.state = .established) (wru : Bool) :
    LineConsistent (requestAnswerBack wru s) := by
  unfold Machine.requestAnswerBack
  split
  · obtain ⟨marker, spacing, timers, _⟩ := h
    exact ⟨marker, spacing, timers, line⟩
  · exact h.of_eq rfl rfl rfl
  · exact h

/-- The entry to ESTABLISHED (R79). -/
theorem enterEstablished (untimed : Untimed s) (marker : s.controller.markerOpen = true)
    (empty : s.transmitter.sequencer = .empty) : LineConsistent (enterEstablished s) := by
  have entered : LineConsistent (raise evEstablished none (markBreakPassed (setLine .established s))) := by
    obtain ⟨confirm, originate, timer, clear, spacing⟩ := untimed
    simp_all [LineConsistent, MarkerFollowsLine, ClearSpacingOk, CallTimersOk, SequencerFollowsLine,
      LineState.connected, setLine]
  unfold Machine.enterEstablished
  simp only
  split
  · exact requestAnswerBack entered (by simp [setLine]) false
  · exact entered

theorem wakingFault (untimed : Untimed s) (marker : s.controller.markerOpen = true) :
    LineConsistent (wakingFault s) := by
  unfold Machine.wakingFault
  split
  · exact enterRefusing (untimed.of_eq (by simp) (by simp [lettersPlanes])) (by simpa using marker)
  · exact enterClearing untimed

/-- The entry to WAKING (R78). -/
theorem enterWaking (untimed : Untimed s) (marker : s.controller.markerOpen = true)
    (empty : s.transmitter.sequencer = .empty) : LineConsistent (enterWaking s) := by
  obtain ⟨confirm, originate, timer, clear, spacing⟩ := untimed
  have waking : LineConsistent (setLine .waking s) := by
    simp_all [LineConsistent, MarkerFollowsLine, ClearSpacingOk, CallTimersOk, SequencerFollowsLine,
      LineState.connected, setLine]
  unfold Machine.enterWaking
  simp only
  split
  · exact enterEstablished ⟨confirm, originate, timer, clear, spacing⟩ marker empty
  · exact wakingFault ⟨confirm, originate, timer, clear, spacing⟩ marker
  · exact waking
  · exact waking

/-- The entry of a call (R76). -/
theorem enterCall (untimed : Untimed s) (empty : s.transmitter.sequencer = .empty) (kind : CallKind)
    (accepted : Bool) : LineConsistent (enterCall kind accepted s) := by
  obtain ⟨confirm, originate, timer, clear, spacing⟩ := untimed
  have begun (u : State) (hu : Untimed u ∧ u.transmitter.sequencer = .empty) :
      Untimed (lettersPlanes (openMarker u)) ∧ (lettersPlanes (openMarker u)).controller.markerOpen = true
      ∧ (lettersPlanes (openMarker u)).transmitter.sequencer = .empty := by
    obtain ⟨⟨confirm, originate, timer, clear, spacing⟩, empty⟩ := hu
    unfold openMarker
    split <;> refine ⟨⟨?_, ?_, ?_, ?_, ?_⟩, ?_, ?_⟩ <;> simp_all [lettersPlanes]
  have called (u : State) (hu : Untimed u ∧ u.transmitter.sequencer = .empty) :
      LineConsistent (if accepted then Machine.enterWaking (lettersPlanes (openMarker u))
        else Machine.enterRefusing (lettersPlanes (openMarker u))) := by
    obtain ⟨untimed, marker, empty⟩ := begun u hu
    split
    · exact enterWaking untimed marker empty
    · exact enterRefusing untimed marker
  unfold Machine.enterCall
  refine called _ ⟨?_, ?_⟩
  · simp only
    split <;> constructor <;> simp_all
  · simp only
    split <;> simp_all

end

/-! ## Transitions of LINE_IN (R69, R71, R73) -/

theorem spaceAtController {s : State} (h : LineConsistent s) : LineConsistent (spaceAtController s) := by
  unfold Machine.spaceAtController
  split
  · next pending =>
    have freed := enterFree h.1 (h.not_spacing (by simp [pending]))
    unfold callNotConfirmed
    split
    · next originate =>
      split
      · exact freed
      · next running =>
        obtain ⟨marker, spacing, timers, sequencer⟩ := h
        have clear := spacing.1
        have still := spacing.2.1
        have known := timers.2.2.2
        cases timer : s.controller.originateTimer <;> cases x : s.transmitter.state <;>
          cases q : s.transmitter.sequencer <;>
          simp_all [LineConsistent, MarkerFollowsLine, ClearSpacingOk, CallTimersOk, SequencerFollowsLine,
            LineState.connected]
    · exact freed
  · exact h

theorem markAtController {s : State} (h : LineConsistent s) : LineConsistent (markAtController s) := by
  have empty := h.sequencer_eq_empty
  have still := h.not_spacing
  have clear := h.clearTimer_eq_none
  obtain ⟨marker, spacing, timers, sequencer⟩ := h
  have known := timers.2.2.2
  unfold Machine.markAtController
  split
  · next line =>
    have made := timers.2.1
    cases timer : s.controller.originate <;>
      simp_all [LineConsistent, MarkerFollowsLine, ClearSpacingOk, CallTimersOk, SequencerFollowsLine,
        LineState.connected, enterCallPending]
  · next line =>
    have running := timers.2.2.1 line
    simp_all [LineConsistent, MarkerFollowsLine, ClearSpacingOk, CallTimersOk, SequencerFollowsLine,
      LineState.connected, enterCallPending]
  · exact ⟨marker, spacing, timers, sequencer⟩

theorem doMarkToSpace {time : Nat} {s t : State} (h : LineConsistent s) (d : doMarkToSpace time s = some t) :
    LineConsistent t := by
  simp only [Machine.doMarkToSpace] at d
  split at d <;> cases d
  have received : LineConsistent (spaceAtReceiver ((s.upTo time).setLineIn false)) := by
    refine h.of_eq ?_ ?_ ?_ <;> simp only [spaceAtReceiver, startEdge, takeClaim, setRx] <;> repeat' split
    all_goals rfl
  refine (spaceAtController received).of_eq ?_ ?_ ?_ <;> unfold beginRun <;> split <;> rfl

theorem doSpaceToMark {time : Nat} {s t : State} (h : LineConsistent s) (d : doSpaceToMark time s = some t) :
    LineConsistent t := by
  simp only [Machine.doSpaceToMark] at d
  split at d <;> cases d
  refine markAtController (h.of_eq ?_ ?_ ?_) <;> simp only [stopCounter, markAtReceiver, setRx] <;> split <;> rfl

theorem atSample {s t : State} {a : Assembly} (h : LineConsistent s) (d : atSample s = some (a, t)) :
    LineConsistent t :=
  atSample_keeps LineConsistent (fun _ _ _ h => h.doMarkToSpace) (fun _ _ _ h => h.doSpaceToMark) inert.ahead
    (fun s _ => inert.now s _) h d

/-! ## Motor control at the connection controller (R78) -/

theorem enterEstablished_of_waking {s : State} (h : LineConsistent s) (waking : s.controller.state = .waking) :
    LineConsistent (Machine.enterEstablished s) :=
  enterEstablished (h.untimed (by rw [waking]; nofun) (by rw [waking]; nofun) (by rw [waking]; nofun))
    (h.1.1 (by rw [waking]; rfl))
    (h.sequencer_eq_empty (by rw [waking]; nofun) (by rw [waking]; nofun) (by rw [waking]; nofun))

theorem wakingFault_of_waking {s : State} (h : LineConsistent s) (waking : s.controller.state = .waking) :
    LineConsistent (Machine.wakingFault s) :=
  wakingFault (h.untimed (by rw [waking]; nofun) (by rw [waking]; nofun) (by rw [waking]; nofun))
    (h.1.1 (by rw [waking]; rfl))

theorem enterRunning {s : State} (h : LineConsistent s) : LineConsistent (enterRunning s) := by
  have running : LineConsistent
      (resumePunchStep (loadIdle (s.setMotor { state := .running, runupEnds := none, idleEnds := none }))) :=
    h.of_eq (by simp) (by simp) (by simp)
  simp only [Machine.enterRunning]
  split
  · next waking =>
    exact running.enterEstablished_of_waking waking
  · exact running

theorem beginRunup {s : State} (h : LineConsistent s) : LineConsistent (beginRunup s) := by
  simp only [Machine.beginRunup]
  split
  · exact enterRunning h
  · exact h

theorem enterFault {s : State} (h : LineConsistent s) : LineConsistent (enterFault s) := by
  have fault : LineConsistent (raise evMechFault (some faultMotor)
      ((s.setMotor { state := .fault, runupEnds := none, idleEnds := none }).setPrinter
        { s.printer with unsure := true })) := h
  simp only [Machine.enterFault]
  split
  · next waking =>
    exact fault.wakingFault_of_waking waking
  · exact fault

theorem doDebounced {k : Fin 6} {s t : State} (d : doDebounced k s = some t) (h : LineConsistent s) :
    LineConsistent t := by
  have asserted {u : State} (seen : LineConsistent u) : LineConsistent (senseAsserted k u) := by
    simp only [senseAsserted]
    repeat' split
    · exact seen.of_eq (by simp) (by simp) (by simp)
    · exact seen
    · exact seen.of_eq (by simp) (by simp) (by simp)
    · unfold motorReadySet
      split
      · exact enterRunning seen
      · exact seen
    · exact seen.of_eq (by simp) (by simp) (by simp)
    · exact seen
  have released {u : State} (seen : LineConsistent u) : LineConsistent (senseReleased k u) := by
    simp only [senseReleased, motorReadyLost]
    repeat' split
    all_goals first | exact seen | exact enterFault seen
  have seen (i : SenseInput) (time : Nat) : LineConsistent (raiseSenseChange (setInput k i (s.upTo time))) :=
    inert.raiseSenseChange h
  simp only [Machine.doDebounced, debounceTo] at d
  split at d <;> cases d
  split
  · exact asserted (seen _ _)
  · exact released (seen _ _)

/-! ## Resets (R25, R88) -/

/-- A ring reset closes no marker that stands for a connection, in FREE. -/
theorem resetRings {s : State} (h : LineConsistent s) (free : s.controller.state = .free) :
    LineConsistent (resetRings s) := by
  have controller : (Machine.resetRings s).controller = { s.controller with markerOpen := false } := by
    simp [Machine.resetRings]
  have transmitter : (Machine.resetRings s).transmitter = s.transmitter := by simp [Machine.resetRings]
  obtain ⟨marker, spacing, timers, sequencer⟩ := h
  simp only [LineConsistent, MarkerFollowsLine, ClearSpacingOk, CallTimersOk, SequencerFollowsLine, controller,
    transmitter] at *
  simp_all [LineState.connected]
  exact timers.2.2.1 timers.2.1

/-- RESTART leaves FREE, or CLEARING with its clear spacing begun (R88). -/
theorem restartAll (s : State) : LineConsistent (restartAll s) := by
  have restarted (u : State) : LineConsistent (restartLine u) := by
    have after : u.controller.state.afterRestart = .clearing ∨ u.controller.state.afterRestart = .free := by
      cases u.controller.state <;> simp [LineState.afterRestart]
    unfold restartLine
    rcases after with after | after <;>
      simp [after, LineConsistent, MarkerFollowsLine, ClearSpacingOk, CallTimersOk, SequencerFollowsLine,
        LineState.connected, beginClearSpacing, Controller.powerOn, Transmitter.powerOn]
  exact (restarted (Machine.resetRings s)).of_eq
    (by simp [Machine.restartAll, restartEvents, restartPunch, restartPrinter, restartKeyboard, restartReceiver])
    (by simp [Machine.restartAll, restartEvents, restartPunch, restartPrinter, restartKeyboard, restartReceiver])
    (by simp [Machine.restartAll, restartEvents, restartPunch, restartPrinter, restartKeyboard, restartReceiver])

theorem powerOn (rate : Bool) (s : State) : LineConsistent (powerOn rate s) := by
  have reset : LineConsistent State.reset := by
    simp [LineConsistent, MarkerFollowsLine, ClearSpacingOk, CallTimersOk, SequencerFollowsLine, LineState.connected,
      State.reset, Controller.powerOn, Transmitter.powerOn]
  exact reset.of_eq (by simp [Machine.powerOn, State.reset]) (by simp [Machine.powerOn, State.reset])
    (by simp [Machine.powerOn, State.reset])

/-! ## The transmitter (R83, R95 to R98, R106) -/

/-- Where the line is quiet, a call is established or refused and the transmitter is idle (R90). -/
theorem quiet_of_arbiter {s : State} {source : KeySource} (h : arbiter s = some source) :
    (s.controller.state = .established ∨ s.controller.state = .refusing) ∧ s.transmitter.state = .idle := by
  unfold arbiter lineQuiet at h
  split at h
  · next quiet =>
    simp only [Bool.and_eq_true, Bool.or_eq_true, beq_iff_eq] at quiet
    exact quiet.1
  · cases h

/-- In a call the transmitter may begin to send, to break, or stop doing so. -/
theorem of_transmitting {s t : State} (h : LineConsistent s)
    (line : s.controller.state = .established ∨ s.controller.state = .refusing)
    (controller : t.controller = s.controller) (state : t.transmitter.state ≠ .clearSpacing)
    (sequencer : t.transmitter.sequencer = s.transmitter.sequencer
      ∨ (s.controller.state = .established ∧ ∃ cs wru, t.transmitter.sequencer = .answerBack cs wru)
      ∨ (s.controller.state = .refusing ∧ ∃ cs, t.transmitter.sequencer = .refusal cs)) : LineConsistent t := by
  have clear := h.clearTimer_eq_none (by rcases line with line | line <;> simp [line])
  obtain ⟨marker, spacing, timers, held⟩ := h
  refine ⟨by simpa [MarkerFollowsLine, controller] using marker, ?_, by simpa [CallTimersOk, controller] using timers,
      ?_⟩
  · rcases line with line | line <;> simp [ClearSpacingOk, controller, clear, state, line]
  · rcases sequencer with same | ⟨line, cs, wru, same⟩ | ⟨line, cs, same⟩
    · unfold SequencerFollowsLine at held ⊢
      rw [same, controller]
      cases q : s.transmitter.sequencer <;> rcases line with line | line <;> simp_all
    · simp [SequencerFollowsLine, same, controller, line]
    · simp [SequencerFollowsLine, same, controller, line]

theorem doCharacterBegin {s t : State} (h : LineConsistent s) (d : doCharacterBegin s = some t) :
    LineConsistent t := by
  have taken {u v : State} {e : Entry} (d : takeEntry .xmit u = some (e, v)) :
      v.controller = u.controller ∧ v.transmitter = u.transmitter := by simp [(takeEntry_eq d).2, advanceCursor]
  have followed (e : Entry) (u : State) : (followStream e u).controller = u.controller
      ∧ (followStream e u).transmitter.sequencer = u.transmitter.sequencer := by
    unfold followStream
    split <;> exact ⟨rfl, rfl⟩
  have checked (u : State) : (sendEmptyCheck u).controller = u.controller
      ∧ (sendEmptyCheck u).transmitter = u.transmitter := by
    rw [sendEmptyCheck_frame]
    exact ⟨rfl, rfl⟩
  have rest := h.2.2.2
  simp only [Machine.doCharacterBegin, beginFromSend] at d
  split at d
  all_goals first | cases d | skip
  · next chosen =>
    obtain ⟨line, idle⟩ := quiet_of_arbiter chosen
    have notClearing : s.controller.state ≠ .clearing := by rcases line with line | line <;> simp [line]
    split at d <;> cases d
    · next c cs wru held =>
      simp only [SequencerFollowsLine, held, notClearing, false_and, or_false] at rest
      exact of_transmitting h line rfl (by simp [keyCode]) (.inr (.inl ⟨rest, cs, wru, rfl⟩))
    · next c cs held =>
      simp only [SequencerFollowsLine, held, notClearing, false_and, or_false] at rest
      exact of_transmitting h line rfl (by simp [keyCode]) (.inr (.inr ⟨rest, cs, rfl⟩))
  · next chosen =>
    obtain ⟨line, idle⟩ := quiet_of_arbiter chosen
    split at d <;> cases d
    next wru c cs held _ =>
    simp only [SequencerFollowsLine, held] at rest
    exact of_transmitting h line rfl (by simp [keyCode]) (.inr (.inl ⟨rest, cs, wru, rfl⟩))
  · next chosen =>
    obtain ⟨line, idle⟩ := quiet_of_arbiter chosen
    repeat' split at d
    all_goals cases d
    · exact of_transmitting h line rfl (by simp [keyCode]) (.inl rfl)
    · next took =>
      exact of_transmitting h line (by simp [keyCode, followed, taken took, checked]) (by simp [keyCode])
        (.inl (by simp [keyCode, followed, taken took, checked]))

/-- Outside CLEARING the transmitter may become idle. -/
theorem of_idle {s t : State} (h : LineConsistent s) (notClearing : s.controller.state ≠ .clearing)
    (controller : t.controller = s.controller) (idle : t.transmitter.state = .idle)
    (sequencer : t.transmitter.sequencer = s.transmitter.sequencer) : LineConsistent t := by
  have clear := h.clearTimer_eq_none notClearing
  obtain ⟨marker, spacing, timers, held⟩ := h
  refine ⟨by simpa [MarkerFollowsLine, controller] using marker, by simp [ClearSpacingOk, controller, clear, idle,
    notClearing], by simpa [CallTimersOk, controller] using timers, ?_⟩
  simp only [SequencerFollowsLine, notClearing, false_and, or_false] at held
  simpa [SequencerFollowsLine, controller, sequencer, notClearing] using held

theorem sequenceDone {s : State} (h : LineConsistent s) (notClearing : s.controller.state ≠ .clearing) :
    LineConsistent (sequenceDone s) := by
  have emptied : LineConsistent (setSequencer .empty s) := by
    obtain ⟨marker, spacing, timers, _⟩ := h
    exact ⟨marker, spacing, timers, trivial⟩
  have rest := h.2.2.2
  unfold Machine.sequenceDone
  split
  · split <;> exact emptied
  · next held =>
    simp only [SequencerFollowsLine, held, notClearing, false_and, or_false] at rest
    exact enterClearing
      ((h.untimed (by rw [rest]; nofun) (by rw [rest]; nofun) notClearing).of_eq rfl rfl)
  · exact h

theorem doCharacterEnd {s t : State} (h : LineConsistent s) (d : doCharacterEnd s = some t) : LineConsistent t := by
  simp only [Machine.doCharacterEnd] at d
  split at d
  · next start code keying sending =>
    cases d
    split
    · next clearing =>
      have line : s.controller.state = .clearing := by simpa using clearing
      obtain ⟨marker, _, timers, _⟩ := h
      refine ⟨?_, ?_, ?_, trivial⟩
      · simpa [MarkerFollowsLine, beginClearSpacing, setSequencer] using marker
      · simp [ClearSpacingOk, beginClearSpacing, setSequencer, line]
      · simpa [CallTimersOk, beginClearSpacing, setSequencer] using timers
    · next line =>
      have still : s.controller.state ≠ .clearing := by simpa using line
      exact sequenceDone (h.of_idle still (by simp) (by simp) (by simp)) line
  · cases d

theorem doBreakBegin {s t : State} (h : LineConsistent s) (d : doBreakBegin s = some t) : LineConsistent t := by
  simp only [Machine.doBreakBegin] at d
  split at d <;> cases d
  next chosen =>
  exact of_transmitting h (quiet_of_arbiter chosen).1 rfl (by simp [stopCounter]) (.inl rfl)

theorem doBreakEnd {s t : State} (h : LineConsistent s) (d : doBreakEnd s = some t) : LineConsistent t := by
  simp only [Machine.doBreakEnd] at d
  split at d
  · next breaking =>
    have notClearing : s.controller.state ≠ .clearing := fun line => by
      have := h.2.1.2.2 line
      simp [breaking, TxState.isSending] at this
    cases d
    have counted (u : State) : (beginRun u).controller = u.controller ∧ (beginRun u).transmitter = u.transmitter := by
      unfold beginRun
      split <;> exact ⟨rfl, rfl⟩
    split
    · exact of_idle h notClearing rfl rfl rfl
    · exact of_idle h notClearing (counted _).1 (by rw [(counted _).2]; rfl) (by rw [(counted _).2]; rfl)
  · cases d

theorem haltSending {s : State} (why : HaltReason) (h : LineConsistent s) : LineConsistent (haltSending why s) := by
  unfold Machine.haltSending
  split <;> exact h

theorem echoFailed {s : State} (h : LineConsistent s) : LineConsistent (echoFailed s) :=
  haltSending .collision (s := s.setTransmitter { s.transmitter with echo := none }) h

theorem requestBreak {s : State} (h : LineConsistent s) : LineConsistent (requestBreak s) := by
  unfold Machine.requestBreak
  split <;> exact h

theorem pressKey (k : Fin 64) {s : State} (h : LineConsistent s) : LineConsistent (pressKey k s) := by
  have down : LineConsistent (setKey k .down s) := h
  simp only [Machine.pressKey]
  split
  · exact down
  · split
    · rw [strikeCode_frame]; exact down
    · exact h
  · unfold pressHereIs
    split
    · rw [hereIsLocal_frame]; exact down
    · split
      · next line => exact requestAnswerBack down line false
      · exact down
  · exact down
  · rw [strikeErase_frame]; exact down
  · unfold pressBreak
    split
    · exact requestBreak down
    · exact down
  · exact down
  · exact down.of_eq (by simp) (by simp) (by simp)

theorem readKeyNow (k : Fin 64) (closed : Bool) {s : State} (h : LineConsistent s) :
    LineConsistent (readKeyNow k closed s) := by
  have updated {u : State} (hu : LineConsistent u) : LineConsistent (updateRepeat u) :=
    hu.of_eq (by simp) (by simp) (by simp)
  simp only [Machine.readKeyNow]
  split
  · exact updated h
  · exact updated (pressKey k h)
  · exact updated h

/-- The clear threshold ends an unanswered call and a connection (R81). -/
theorem clearReport {s : State} (h : LineConsistent s) : LineConsistent (clearReport s) := by
  unfold Machine.clearReport
  split
  case h_5 => exact h
  all_goals next line => exact enterFree h.1 (h.not_spacing (by rw [line]; nofun))

/-- A confirmed call is entered, or waits for its ANSWER (R74). -/
theorem confirmCall {s : State} (h : LineConsistent s) (pending : s.controller.state = .callPending) :
    LineConsistent (confirmCall s) := by
  have clear := h.clearTimer_eq_none (by rw [pending]; nofun)
  have empty := h.sequencer_eq_empty (by rw [pending]; nofun) (by rw [pending]; nofun) (by rw [pending]; nofun)
  have still := h.not_spacing (by rw [pending]; nofun)
  have closed : s.controller.markerOpen = false := by
    have := h.1.2
    simpa [pending, LineState.connected] using this
  have known := h.2.2.1.2.2.2
  cases far : s.controller.originate with
  | true =>
    rw [confirmCall_of_originated far]
    refine enterCall ⟨?_, ?_, ?_, ?_, ?_⟩ ?_ _ _
    exacts [rfl, rfl, rfl, clear, still, empty]
  | false =>
    have stopped := known.1 far
    have untimed : Untimed (farCalled s) := ⟨rfl, far, stopped, clear, still⟩
    rw [confirmCall_of_far far]
    split
    · exact enterCall untimed empty _ _
    · simp [LineConsistent, MarkerFollowsLine, ClearSpacingOk, CallTimersOk, SequencerFollowsLine,
        LineState.connected, setLine, farCalled, far, stopped, closed, clear, empty, still]

/-- What a completed character makes of the sequencer: in ESTABLISHED a request (R32, R54). -/
theorem completeCharacter (a : Assembly) {s : State} (h : LineConsistent s) :
    LineConsistent (completeCharacter a s) := by
  have echoed (q : Quality) {u : State} (hu : LineConsistent u) : LineConsistent (echoResult a.own q u) := by
    unfold echoResult
    repeat' split
    · exact echoFailed hu
    · exact hu
    · exact hu
  have looked (q : Quality) (p : Plane) {u : State} (hu : LineConsistent u) :
      LineConsistent (wruLookup a.own q p a.code u) := by
    unfold wruLookup
    split
    · next wru => exact requestAnswerBack hu wru.2.2.1 true
    · exact hu
  have counted (q : Quality) (early late : Nat) {u : State} (hu : LineConsistent u) :
      LineConsistent (loadIdle (countCharacter q early late u)) := by
    refine hu.of_eq ?_ ?_ ?_ <;> rw [countCharacter_frame] <;> simp
  have written (e : Entry) (v : Receiver) : LineConsistent (writeTraffic e (s.setReceiver v)) :=
    h.of_eq (by simp) (by simp) (by simp)
  exact counted _ _ _ (looked _ _ (echoed _ (written _ _)))

/-! ## Every step -/

theorem records {k : Byte} {s t : State} (h : LineConsistent s) (e : Effect s k t) : LineConsistent t := by
  cases e with
  | none => exact h
  | ringLayout p =>
    simp only [doRingLayout]
    split
    · split
      · exact h
      · split
        · exact h
        · next ready _ =>
          have free : s.controller.state = .free := by simp [layoutReady] at ready; simp [ready]
          exact resetRings (s := s.setStore _) h free
    · exact h
  | answer =>
    simp only [doAnswer]
    split
    · next line =>
      exact enterCall (h.untimed (by rw [line]; nofun) (by rw [line]; nofun) (by rw [line]; nofun))
        (h.sequencer_eq_empty (by rw [line]; nofun) (by rw [line]; nofun) (by rw [line]; nofun)) _ _
    · exact h
  | originate =>
    simp only [doOriginate]
    split
    · next line =>
      have confirm := h.2.2.1.1
      have clear := h.clearTimer_eq_none (by rw [line]; nofun)
      have empty := h.sequencer_eq_empty (by rw [line]; nofun) (by rw [line]; nofun) (by rw [line]; nofun)
      have still := h.not_spacing (by rw [line]; nofun)
      have closed := h.1.2
      simp_all [lineReply, LineConsistent, MarkerFollowsLine, ClearSpacingOk, CallTimersOk, SequencerFollowsLine,
        LineState.connected]
    · exact h
  | clear =>
    simp only [doClear]
    split
    case h_1 => exact h
    case h_2 line => exact enterFree h.1 (h.not_spacing (by rw [line]; nofun))
    case h_3 line =>
      exact enterClearing ⟨rfl, rfl, rfl, h.clearTimer_eq_none (by rw [line]; nofun),
        h.not_spacing (by rw [line]; nofun)⟩
    case h_8 => exact h
    all_goals
      next line => exact enterClearing (h.untimed (by rw [line]; nofun) (by rw [line]; nofun) (by rw [line]; nofun))
  | breakSend =>
    simp only [doBreak]
    split
    · exact requestBreak h
    · exact h
  | hereIs =>
    simp only [doHereIs]
    split
    · next line => exact requestAnswerBack h line false
    · exact h
  | haltSend => exact haltSending .host h
  | resumeSend => exact h
  | motorRestart =>
    simp only [doMotorRestart, restartMotor]
    split
    · split
      · exact beginRunup h
      · exact h
    · exact h
  | restart => exact restartAll s
  | statistics => exact h
  | lineSetup p => rw [doLineSetup_frame]; exact h
  | printerSetup p => rw [doPrinterSetup_frame]; exact h
  | keyboardSetup p => rw [doKeyboardSetup_frame]; exact h
  | punchSetup p => rw [doPunchSetup_frame]; exact h
  | motorAndBellSetup p => rw [doMotorAndBellSetup_frame]; exact h
  | loadCodes p => rw [doLoadCodes_frame]; exact h
  | loadKeys p => rw [doLoadKeys_frame]; exact h
  | loadAnswerBack p => rw [doLoadAnswerBack_frame]; exact h
  | loadRefusalText p => rw [doLoadRefusalText_frame]; exact h
  | setMode p => rw [doSetMode_frame]; exact h
  | cancelSend => rw [doCancelSend_frame]; exact h
  | printerStop => rw [doPrinterStop_frame]; exact h
  | printerResume => rw [doPrinterResume_frame]; exact h
  | punchStop => rw [doPunchStop_frame]; exact h
  | punchResume => rw [doPunchResume_frame]; exact h
  | punchFeed n => rw [doPunchFeed_frame]; exact h
  | writeText p => rw [doWriteText_frame]; exact h
  | writeCodes p => rw [doWriteCodes_frame]; exact h
  | readTake c n => rw [doReadTake_frame]; exact h
  | moveReader c delta => rw [doMoveReader_frame]; exact h
  | attach c => rw [doAttach_frame]; exact h
  | detach c => rw [doDetach_frame]; exact h
  | eventSetup p => rw [doEventSetup_frame]; exact h
  | eventClear p => rw [doEventClear_frame]; exact h

theorem own {i : Instr} {f : State → Option State} {s t : State} (row : ownDo i = some f) (h : LineConsistent s)
    (d : f s = some t) : LineConsistent t := by
  cases i <;> cases row
  case interByteGapExpiry => exact inert.doGapExpiry h d
  case recordOverrun => exact inert.doOverrun h d
  case outgoingRecordEnd => exact inert.doRecordEnd h d
  case sensePinChange => exact inert.doSensePin h d
  case unitSample =>
    simp only [doUnitSample] at d
    split at d
    · cases d
    · next sampled =>
      have found := h.atSample sampled
      repeat' split at d
      all_goals cases d
      all_goals exact found
  case falseStart =>
    simp only [doFalseStart] at d
    split at d
    · cases d
    · next sampled =>
      have found := h.atSample sampled
      repeat' split at d
      all_goals cases d
      · exact echoFailed found
      · exact found
  case characterCompletion =>
    simp only [doCharacterCompletion] at d
    split at d
    · cases d
    · next sampled =>
      split at d <;> cases d
      exact completeCharacter _ (h.atSample sampled)
  case claimWithdrawn =>
    simp only [doClaimWithdrawn] at d
    split at d <;> cases d
    exact echoFailed (inert.upTo _ h)
  case breakThresholdReached =>
    simp only [doBreakThreshold] at d
    repeat' split at d
    all_goals cases d
    · exact haltSending _ h
    · exact h
    · exact h
  case clearThresholdReached =>
    simp only [doClearThreshold] at d
    repeat' split at d
    all_goals cases d
    exact clearReport h
  case callConfirmed =>
    simp only [doCallConfirmed] at d
    repeat' split at d
    all_goals cases d
    next pending => exact confirmCall (inert.upTo _ h) pending
  case originateTimeout =>
    simp only [doOriginateTimeout] at d
    split at d
    · next running =>
      split at d <;> cases d
      · next line => exact enterFree h.1 (h.not_spacing (by rw [show s.controller.state = _ from line]; nofun))
      · next line =>
        have pending : s.controller.state = .callPending := line
        obtain ⟨marker, spacing, timers, sequencer⟩ := h
        refine ⟨marker, spacing, ⟨timers.1, timers.2.1, ?_, ?_⟩, sequencer⟩
        · simp [pending]
        · have known := timers.2.2.2
          simp [running] at known
          simp [known]
    · cases d
  case clearTimerExpiry =>
    simp only [doClearTimerExpiry] at d
    split at d <;> cases d
    exact enterFree h.1 nofun
  case characterBegin => exact h.doCharacterBegin d
  case characterEnd => exact h.doCharacterEnd d
  case breakBegin => exact h.doBreakBegin d
  case breakEnd => exact h.doBreakEnd d
  case motorRunupStart =>
    simp only [doRunupStart] at d
    split at d <;> cases d
    exact beginRunup h
  case runupTimeout =>
    simp only [doRunupTimeout] at d
    repeat' split at d
    all_goals cases d
    exact enterFault h
  case senseDebouncedChange => exact doDebounced d h
  case repeatTimerExpiry => rw [doRepeat_frame d]; exact h
  case printTake => rw [doPrintTake_frame d]; exact h
  case wheelTravelBegin => rw [doWheelTravel_frame d]; exact h
  case printActionBegin => rw [doPrintAction_frame d]; exact h
  case implicitNewlineBegin => rw [doImplicitNewline_frame d]; exact h
  case implicitReturnBegin => rw [doImplicitReturn_frame d]; exact h
  case wheelStepEnd => rw [doWheelStep_frame d]; exact h
  case strikeComplete => rw [doStrikeComplete_frame d]; exact h
  case advanceComplete => rw [doAdvanceComplete_frame d]; exact h
  case returnComplete => rw [doReturnComplete_frame d]; exact h
  case lineFeedComplete => rw [doLineFeedComplete_frame d]; exact h
  case punchTake => rw [doPunchTake_frame d]; exact h
  case blankCycleBegin => rw [doBlankCycle_frame d]; exact h
  case punchActionBegin => rw [doPunchAction_frame d]; exact h
  case punchStepComplete => rw [doPunchStep_frame d]; exact h
  case idleCountdownExpiry => rw [doIdleExpiry_frame d]; exact h
  case ringBegin => rw [doRingBegin_frame d]; exact h
  case ringEnd => rw [doRingEnd_frame d]; exact h
  case gapEnd => rw [doGapEnd_frame d]; exact h

theorem step_keeps {s t : State} (h : LineConsistent s) (d : step s = .next t) : LineConsistent t :=
  inert.step_keeps (fun rate s _ => powerOn rate s) (fun _ _ _ => records) (fun _ _ _ h d => h.doMarkToSpace d)
    (fun _ _ _ h d => h.doSpaceToMark d) (fun k c _ => readKeyNow k c) (fun _ _ _ _ => own) h d

end LineConsistent

/-- Settles O57. -/
theorem lineStaysConsistent : Obligations.LineStaysConsistent := by
  unfold Obligations.LineStaysConsistent
  intro s t consistent next
  exact LineConsistent.step_keeps consistent next

end Sys2Proof.Machine
end

section
/-! SUPPORT. What raising events keeps: a property of the host link, the event table and the sense inputs is kept by
every step of the part, once occurrences keep it and what a change of these three does. -/

namespace Sys2Proof.Machine

/-- A property that looks at the host link, the event table and the sense inputs, and that an occurrence keeps. -/
structure Raising (P : State → Prop) : Prop where
  congr : ∀ {s u : State}, P s → u.link = s.link → u.events = s.events → u.sense = s.sense → P u
  raise : ∀ {s : State} (e : Fin 16) (data : Option Byte), P s → P (raise e data s)

namespace Raising

variable {P : State → Prop} (raising : Raising P)
include raising

/-! ## Cursors, halts and modes -/

theorem lapCursor (c : CursorId) (n : Nat) {s : State} (h : P s) : P (lapCursor c n s) :=
  raising.raise _ _ (raising.congr h rfl rfl rfl)

theorem lapIfOver (c : CursorId) {s : State} (h : P s) : P (lapIfOver c s) := by
  unfold Machine.lapIfOver
  split
  · exact raising.lapCursor c 1 h
  · exact h

theorem writeTraffic (e : Entry) {s : State} (h : P s) : P (writeTraffic e s) :=
  raising.lapIfOver _ (raising.lapIfOver _ (raising.lapIfOver _ (raising.congr h rfl rfl rfl)))

theorem returnEntry (x : Held) {s : State} (h : P s) : P (returnEntry x s) := by
  unfold Machine.returnEntry
  split
  · exact h
  · split
    · exact raising.congr h rfl rfl rfl
    · exact raising.raise _ _ (raising.congr h rfl rfl rfl)

theorem attachCursor (c : CursorId) {s : State} (h : P s) : P (attachCursor c s) := by
  simp only [Machine.attachCursor]
  split
  · exact h
  · split
    · exact raising.congr (raising.lapCursor c _ h) rfl rfl rfl
    · exact raising.congr h rfl rfl rfl

theorem returnPrinterHeld {s : State} (h : P s) : P (returnPrinterHeld s) := by
  unfold Machine.returnPrinterHeld
  split
  · exact h
  · exact raising.congr (raising.returnEntry _ h) rfl rfl rfl

theorem returnPunchHeld {s : State} (h : P s) : P (returnPunchHeld s) := by
  unfold Machine.returnPunchHeld
  split
  · exact h
  · exact raising.congr (raising.returnEntry _ h) rfl rfl rfl

theorem haltPrinter (set : PrinterHalts → PrinterHalts) {s : State} (h : P s) : P (haltPrinter set s) := by
  unfold Machine.haltPrinter
  split
  · exact raising.congr h rfl rfl rfl
  · exact raising.congr (raising.returnPrinterHeld h) rfl rfl rfl

theorem haltPunch (set : PunchHalts → PunchHalts) {s : State} (h : P s) : P (haltPunch set s) := by
  unfold Machine.haltPunch
  split
  · exact raising.congr h rfl rfl rfl
  · exact raising.congr (raising.returnPunchHeld h) rfl rfl rfl

theorem changeStation (m : StationMode) {s : State} (h : P s) : P (changeStation m s) := by
  simp only [Machine.changeStation]
  split
  · exact h
  · exact raising.congr (raising.attachCursor m.cursor
      (raising.congr (u := detachCursor s.modes.station.cursor _) (raising.returnPrinterHeld h) rfl rfl rfl))
      (by simp) (by simp) (by simp)

theorem changeSource (m : PunchSource) {s : State} (h : P s) : P (changeSource m s) := by
  have left : P (leaveSource s.modes.source.cursor (Machine.returnPunchHeld s)) :=
    raising.congr (raising.returnPunchHeld h) (by simp) (by simp) (by simp)
  simp only [Machine.changeSource]
  split
  · exact h
  · cases m with
    | off => exact raising.congr left rfl rfl rfl
    | traffic => exact raising.congr (raising.attachCursor .punchT left) rfl rfl rfl
    | loc => exact raising.congr (raising.attachCursor .punchL left) rfl rfl rfl

theorem divertPunch {s : State} (h : P s) : P (divertPunch s) := by
  unfold Machine.divertPunch
  split
  · have moved : P ((s.setModes { s.modes with source := .traffic }).setCursor .punchT
        { s.cursor .punchT with r := (s.cursor .printP).r }) := raising.congr h rfl rfl rfl
    exact raising.raise _ _ (raising.congr (raising.attachCursor .punchT moved) rfl rfl rfl)
  · exact h

/-! ## The connection controller and motor control -/

theorem haltSending (why : HaltReason) {s : State} (h : P s) : P (haltSending why s) := by
  unfold Machine.haltSending
  split
  · exact h
  · exact raising.raise _ _ (raising.congr h rfl rfl rfl)

theorem echoFailed {s : State} (h : P s) : P (echoFailed s) :=
  raising.haltSending .collision (raising.congr h rfl rfl rfl)

theorem enterFree {s : State} (h : P s) : P (enterFree s) := by
  have closed : P (closeMarker s) := by
    unfold closeMarker
    split
    · exact raising.congr (raising.writeTraffic .clear h) rfl rfl rfl
    · exact h
  unfold Machine.enterFree
  split
  · exact raising.congr closed rfl rfl rfl
  · exact raising.congr h rfl rfl rfl

theorem freed (cause : Byte) {s : State} (h : P s) : P (raiseCleared cause (Machine.enterFree s)) :=
  raising.raise _ _ (raising.enterFree h)

theorem enterClearing {s : State} (h : P s) : P (enterClearing s) := by
  rw [enterClearing_eq]
  exact raising.congr h rfl rfl rfl

theorem enterEstablished {s : State} (h : P s) : P (enterEstablished s) := by
  have entered : P (Machine.raise evEstablished none (markBreakPassed (setLine .established s))) :=
    raising.raise _ _ (raising.congr h (by simp [setLine]) (by simp [setLine]) (by simp [setLine]))
  simp only [Machine.enterEstablished]
  split
  · exact raising.congr entered (by simp) (by simp) (by simp)
  · exact entered

theorem enterRefusing {s : State} (h : P s) : P (enterRefusing s) := by
  simp only [Machine.enterRefusing]
  split
  · exact raising.enterClearing (raising.congr h rfl rfl rfl)
  · exact raising.congr h rfl rfl rfl

theorem wakingFault {s : State} (h : P s) : P (wakingFault s) := by
  unfold Machine.wakingFault
  split
  · exact raising.enterRefusing (raising.congr h rfl rfl rfl)
  · exact raising.enterClearing h

theorem enterWaking {s : State} (h : P s) : P (enterWaking s) := by
  have waking : P (setLine .waking s) := raising.congr h rfl rfl rfl
  simp only [Machine.enterWaking]
  split
  · exact raising.enterEstablished waking
  · exact raising.wakingFault waking
  · exact waking
  · exact waking

theorem enterCall (kind : CallKind) (accepted : Bool) {s : State} (h : P s) : P (enterCall kind accepted s) := by
  have opened {u : State} (hu : P u) : P (openMarker u) := by
    unfold openMarker
    split
    · exact hu
    · exact raising.congr (raising.writeTraffic .connect hu) rfl rfl rfl
  have called : P (s.setController { s.controller with callKind := some kind }) := raising.congr h rfl rfl rfl
  have ready {u : State} (hu : P u) : P (lettersPlanes (openMarker u)) := raising.congr (opened hu) rfl rfl rfl
  simp only [Machine.enterCall]
  split <;> split
  · exact raising.enterWaking (ready (raising.changeStation .online called))
  · exact raising.enterWaking (ready called)
  · exact raising.enterRefusing (ready (raising.changeStation .online called))
  · exact raising.enterRefusing (ready called)

theorem enterRunning {s : State} (h : P s) : P (enterRunning s) := by
  have running : P (resumePunchStep (loadIdle
      (s.setMotor { state := .running, runupEnds := none, idleEnds := none }))) :=
    raising.congr h (by simp) (by simp) (by simp)
  simp only [Machine.enterRunning]
  split
  · exact raising.enterEstablished running
  · exact running

theorem beginRunup {s : State} (h : P s) : P (beginRunup s) := by
  simp only [Machine.beginRunup]
  split
  · exact raising.enterRunning (raising.congr h rfl rfl rfl)
  · exact raising.congr h rfl rfl rfl

theorem enterFault {s : State} (h : P s) : P (enterFault s) := by
  have fault : P (Machine.raise evMechFault (some faultMotor)
      ((s.setMotor { state := .fault, runupEnds := none, idleEnds := none }).setPrinter
        { s.printer with unsure := true })) := raising.raise _ _ (raising.congr h rfl rfl rfl)
  simp only [Machine.enterFault]
  split
  · exact raising.wakingFault fault
  · exact fault

theorem clearReport {s : State} (h : P s) : P (clearReport s) := by
  unfold Machine.clearReport
  split
  case h_5 => exact h
  all_goals exact raising.freed _ h

theorem confirmCall {s : State} (h : P s) : P (confirmCall s) := by
  cases far : s.controller.originate with
  | true =>
    rw [confirmCall_of_originated far]
    exact raising.enterCall _ _ (raising.congr h rfl rfl rfl)
  | false =>
    have called : P (farCalled s) := by
      have raised : P (Machine.raise evCall none (s.setController { s.controller with confirmTimer := none })) :=
        raising.raise _ _ (raising.congr h rfl rfl rfl)
      rw [raise_eq] at raised
      exact raised
    rw [confirmCall_of_far far]
    split
    · exact raising.enterCall _ _ called
    · exact raising.congr called rfl rfl rfl

/-! ## The keyboard -/

theorem lockKeyboard {s : State} (h : P s) : P (lockKeyboard s) :=
  raising.raise _ _ (raising.congr h rfl rfl rfl)

theorem strikeCode (c : Code) (need : Option Plane) {s : State} (h : P s) : P (strikeCode c need s) := by
  unfold Machine.strikeCode
  split
  · exact h
  · split
    · next written => rw [putChar_frame written]; exact raising.congr h rfl rfl rfl
    · exact raising.lockKeyboard h

theorem strikeErase {s : State} (h : P s) : P (strikeErase s) := by
  unfold Machine.strikeErase
  repeat' split
  all_goals first | exact h | exact raising.congr h rfl rfl rfl | exact raising.lockKeyboard h

theorem strikeKey (k : Fin 64) {s : State} (h : P s) : P (strikeKey k s) := by
  unfold Machine.strikeKey
  split
  · exact raising.strikeCode _ _ h
  · exact raising.strikeErase h
  · exact h

theorem pressKey (k : Fin 64) {s : State} (h : P s) : P (pressKey k s) := by
  have down : P (setKey k .down s) := raising.congr h rfl rfl rfl
  simp only [Machine.pressKey]
  split
  · exact down
  · split
    · exact raising.strikeCode _ _ down
    · exact raising.congr h rfl rfl rfl
  · unfold pressHereIs
    split
    · unfold hereIsLocal
      repeat' split
      · exact down
      · rw [putText_frame]; exact raising.congr down rfl rfl rfl
      · exact raising.lockKeyboard down
    · split
      · exact raising.congr down (by simp) (by simp) (by simp)
      · exact down
  · exact down
  · exact raising.strikeErase down
  · unfold pressBreak
    split
    · exact raising.congr down (by simp) (by simp) (by simp)
    · exact down
  · exact raising.congr down rfl rfl rfl
  · exact raising.changeStation _ down

theorem readKeyNow (k : Fin 64) (closed : Bool) {s : State} (h : P s) : P (readKeyNow k closed s) := by
  have updated {u : State} (hu : P u) : P (updateRepeat u) := raising.congr hu (by simp) (by simp) (by simp)
  have read (v : Keyboard) : P (s.setKeyboard v) := raising.congr h rfl rfl rfl
  simp only [Machine.readKeyNow]
  split
  · exact updated (raising.congr (read _) rfl rfl rfl)
  · exact updated (raising.pressKey k (read _))
  · exact updated (raising.congr (read _) rfl rfl rfl)

/-! ## The line -/

theorem doMarkToSpace {time : Nat} {s t : State} (h : P s) (d : doMarkToSpace time s = some t) : P t := by
  simp only [Machine.doMarkToSpace] at d
  split at d <;> cases d
  have received : P (spaceAtReceiver ((s.upTo time).setLineIn false)) := by
    refine raising.congr h ?_ ?_ ?_ <;> simp only [spaceAtReceiver, startEdge, takeClaim, setRx] <;> repeat' split
    all_goals rfl
  have counted {u : State} (hu : P u) : P (beginRun u) := by
    unfold beginRun
    split
    · exact raising.congr hu rfl rfl rfl
    · exact hu
  refine counted ?_
  unfold spaceAtController callNotConfirmed
  repeat' split
  · exact raising.freed _ received
  · exact raising.congr received rfl rfl rfl
  · exact raising.enterFree received
  · exact received

theorem doSpaceToMark {time : Nat} {s t : State} (h : P s) (d : doSpaceToMark time s = some t) : P t := by
  rw [doSpaceToMark_frame d]
  exact raising.congr h rfl rfl rfl

theorem atSample {s t : State} {a : Assembly} (h : P s) (d : atSample s = some (a, t)) : P t :=
  atSample_keeps P (fun _ _ _ => raising.doMarkToSpace) (fun _ _ _ => raising.doSpaceToMark)
    (fun _ _ h => raising.congr h rfl rfl rfl) (fun _ _ h => raising.congr h rfl rfl rfl) h d

theorem completeCharacter (a : Assembly) {s : State} (h : P s) : P (completeCharacter a s) := by
  have echoed (q : Quality) {u : State} (hu : P u) : P (echoResult a.own q u) := by
    unfold echoResult
    repeat' split
    · exact raising.echoFailed hu
    · exact raising.congr hu rfl rfl rfl
    · exact hu
  have looked (q : Quality) (p : Plane) {u : State} (hu : P u) : P (wruLookup a.own q p a.code u) := by
    rw [wruLookup_frame]
    exact raising.congr hu rfl rfl rfl
  have counted (q : Quality) (early late : Nat) {u : State} (hu : P u) :
      P (loadIdle (countCharacter q early late u)) := by
    refine raising.congr (s := countCharacter q early late u) ?_ (by simp) (by simp) (by simp)
    simp only [countCharacter]
    split
    · split
      · exact raising.raise _ _ (raising.congr hu rfl rfl rfl)
      · exact raising.congr hu rfl rfl rfl
    · exact raising.congr hu rfl rfl rfl
  exact counted _ _ _ (looked _ _ (echoed _ (raising.writeTraffic _ (raising.congr h rfl rfl rfl))))

theorem doCharacterBegin {s t : State} (h : P s) (d : doCharacterBegin s = some t) : P t := by
  have keyed (c : Code) {u : State} (hu : P u) : P (keyCode c u) := raising.congr hu rfl rfl rfl
  have checked {u : State} (hu : P u) : P (sendEmptyCheck u) := by
    unfold sendEmptyCheck
    split
    · exact raising.raise _ _ hu
    · exact hu
  simp only [Machine.doCharacterBegin, beginFromSend] at d
  split at d
  · split at d <;> cases d
    · exact keyed _ (raising.congr h rfl rfl rfl)
    · exact keyed _ (raising.congr h rfl rfl rfl)
  · split at d <;> cases d
    exact keyed _ (raising.congr h rfl rfl rfl)
  · repeat' split at d
    all_goals cases d
    · exact keyed _ h
    · next took =>
      refine keyed _ (checked ?_)
      rw [followStream_frame, (takeEntry_eq took).2]
      exact raising.congr h (by simp [advanceCursor]) (by simp [advanceCursor]) (by simp [advanceCursor])
  · cases d

theorem sequenceDone {s : State} (h : P s) : P (sequenceDone s) := by
  have emptied : P (setSequencer .empty s) := raising.congr h rfl rfl rfl
  unfold Machine.sequenceDone
  split
  · split
    · exact raising.raise _ _ emptied
    · exact emptied
  · exact raising.enterClearing emptied
  · exact h

/-! ## The sense inputs (R176) -/

theorem senseAsserted (k : Fin 6) {s : State} (h : P s) : P (senseAsserted k s) := by
  simp only [Machine.senseAsserted]
  repeat' split
  · unfold paperOutSet
    refine raising.divertPunch ?_
    have raised := raising.raise evPaperOut none (raising.haltPrinter (fun h => { h with paper := true }) h)
    split
    · exact raising.congr raised rfl rfl rfl
    · exact raised
  · exact raising.raise _ _ h
  · exact raising.raise _ _ (raising.congr (raising.haltPunch (fun h => { h with tapeOut := true }) h) rfl rfl rfl)
  · unfold motorReadySet
    split
    · exact raising.enterRunning h
    · exact h
  · exact raising.haltPunch _ (raising.haltPrinter _ h)
  · exact h

theorem senseReleased (k : Fin 6) {s : State} (h : P s) : P (senseReleased k s) := by
  simp only [Machine.senseReleased]
  repeat' split
  · exact raising.congr h rfl rfl rfl
  · exact raising.congr h rfl rfl rfl
  · unfold motorReadyLost
    split
    · exact raising.enterFault h
    · exact h
  · exact raising.congr h rfl rfl rfl
  · exact h

/-! ## Records and own steps -/

theorem records {k : Byte} {s t : State} (h : P s) (e : Effect s k t)
    (motor : ∀ p, P (doMotorAndBellSetup p s).2) (setup : ∀ p, P (doEventSetup p s).2)
    (clear : ∀ p, P (doEventClear p s).2) (restart : P (restartAll s)) : P t := by
  cases e with
  | none => exact h
  | motorAndBellSetup p => exact motor p
  | eventSetup p => exact setup p
  | eventClear p => exact clear p
  | restart => exact restart
  | setMode p =>
    simp only [doSetMode]
    split
    · split
      · exact h
      · exact raising.changeSource _ (raising.changeStation _ (raising.congr h rfl rfl rfl))
    · exact h
  | answer =>
    simp only [doAnswer]
    split
    · exact raising.enterCall _ _ h
    · exact h
  | clear =>
    simp only [doClear]
    split
    case h_1 => exact h
    case h_2 => exact raising.freed _ h
    case h_8 => exact h
    case h_3 => exact raising.enterClearing (raising.congr h rfl rfl rfl)
    all_goals exact raising.enterClearing h
  | haltSend => exact raising.haltSending .host h
  | printerStop => exact raising.haltPrinter (fun h => { h with host := true }) h
  | punchStop => exact raising.haltPunch (fun h => { h with host := true }) h
  | motorRestart =>
    simp only [doMotorRestart, restartMotor]
    split
    · split
      · exact raising.beginRunup (raising.congr h rfl rfl rfl)
      · exact raising.congr h rfl rfl rfl
    · exact h
  | attach c =>
    simp only [doAttach]
    split
    · exact h
    · exact raising.attachCursor _ h
  | originate => rw [doOriginate_frame]; exact raising.congr h rfl rfl rfl
  | breakSend => rw [doBreak_frame]; exact raising.congr h rfl rfl rfl
  | hereIs => rw [doHereIs_frame]; exact raising.congr h rfl rfl rfl
  | resumeSend => rw [doResumeSend_frame]; exact raising.congr h rfl rfl rfl
  | lineSetup p => rw [doLineSetup_frame]; exact raising.congr h rfl rfl rfl
  | printerSetup p => rw [doPrinterSetup_frame]; exact raising.congr h rfl rfl rfl
  | keyboardSetup p => rw [doKeyboardSetup_frame]; exact raising.congr h rfl rfl rfl
  | punchSetup p => rw [doPunchSetup_frame]; exact raising.congr h rfl rfl rfl
  | ringLayout p => rw [doRingLayout_frame]; exact raising.congr h rfl rfl rfl
  | loadCodes p => rw [doLoadCodes_frame]; exact raising.congr h rfl rfl rfl
  | loadKeys p => rw [doLoadKeys_frame]; exact raising.congr h rfl rfl rfl
  | loadAnswerBack p => rw [doLoadAnswerBack_frame]; exact raising.congr h rfl rfl rfl
  | loadRefusalText p => rw [doLoadRefusalText_frame]; exact raising.congr h rfl rfl rfl
  | cancelSend => rw [doCancelSend_frame]; exact raising.congr h rfl rfl rfl
  | printerResume => rw [doPrinterResume_frame]; exact raising.congr h rfl rfl rfl
  | punchResume => rw [doPunchResume_frame]; exact raising.congr h rfl rfl rfl
  | punchFeed n => rw [doPunchFeed_frame]; exact raising.congr h rfl rfl rfl
  | writeText p => rw [doWriteText_frame]; exact raising.congr h rfl rfl rfl
  | writeCodes p => rw [doWriteCodes_frame]; exact raising.congr h rfl rfl rfl
  | readTake c n => rw [doReadTake_frame]; exact raising.congr h rfl rfl rfl
  | moveReader c delta => rw [doMoveReader_frame]; exact raising.congr h rfl rfl rfl
  | detach c => rw [doDetach_frame]; exact raising.congr h rfl rfl rfl
  | statistics => rw [doStatistics_frame]; exact raising.congr h rfl rfl rfl

theorem own {i : Instr} {f : State → Option State} {s t : State} (row : ownDo i = some f) (h : P s)
    (d : f s = some t) (ended : doRecordEnd s = some t → P t)
    (gap : doGapExpiry s = some t → P t) (overrun : doOverrun s = some t → P t)
    (pin : ∀ k level time, doSensePin k level time s = some t → P t)
    (debounced : ∀ k v u, u = (s.upTo (s.sense[k].since + stabilityTime)) → t = debounceTo k v u → P t) : P t := by
  cases i <;> cases row
  case interByteGapExpiry => exact gap d
  case recordOverrun => exact overrun d
  case outgoingRecordEnd => exact ended d
  case sensePinChange => exact pin _ _ _ d
  case senseDebouncedChange k =>
    simp only [doDebounced] at d
    split at d <;> cases d
    exact debounced k _ _ rfl rfl
  case unitSample =>
    simp only [doUnitSample] at d
    split at d
    · cases d
    · next sampled =>
      have found := raising.atSample h sampled
      repeat' split at d
      all_goals cases d
      all_goals exact raising.congr found rfl rfl rfl
  case falseStart =>
    simp only [doFalseStart] at d
    split at d
    · cases d
    · next sampled =>
      have found := raising.atSample h sampled
      repeat' split at d
      all_goals cases d
      · exact raising.echoFailed (raising.congr found rfl rfl rfl)
      · exact raising.congr found rfl rfl rfl
  case characterCompletion =>
    simp only [doCharacterCompletion] at d
    split at d
    · cases d
    · next sampled =>
      split at d <;> cases d
      exact raising.completeCharacter _ (raising.atSample h sampled)
  case claimWithdrawn =>
    simp only [doClaimWithdrawn] at d
    split at d <;> cases d
    exact raising.echoFailed (raising.congr h rfl rfl rfl)
  case breakThresholdReached =>
    simp only [doBreakThreshold] at d
    repeat' split at d
    all_goals cases d
    · exact raising.haltSending _ (raising.raise _ _ (raising.congr h rfl rfl rfl))
    · exact raising.raise _ _ (raising.congr h rfl rfl rfl)
    · exact raising.congr h rfl rfl rfl
  case clearThresholdReached =>
    simp only [doClearThreshold] at d
    repeat' split at d
    all_goals cases d
    exact raising.clearReport (raising.congr h rfl rfl rfl)
  case callConfirmed =>
    simp only [doCallConfirmed] at d
    repeat' split at d
    all_goals cases d
    exact raising.confirmCall (raising.congr h rfl rfl rfl)
  case originateTimeout =>
    simp only [doOriginateTimeout] at d
    repeat' split at d
    all_goals cases d
    · exact raising.freed _ (raising.congr h rfl rfl rfl)
    · exact raising.congr h rfl rfl rfl
  case clearTimerExpiry =>
    simp only [doClearTimerExpiry] at d
    split at d <;> cases d
    exact raising.freed _ (raising.congr h rfl rfl rfl)
  case characterBegin => exact raising.doCharacterBegin h d
  case characterEnd =>
    simp only [doCharacterEnd] at d
    split at d <;> cases d
    split
    · exact raising.congr h (by simp [beginClearSpacing, setSequencer]) (by simp [beginClearSpacing, setSequencer])
        (by simp [beginClearSpacing, setSequencer])
    · exact raising.sequenceDone (raising.congr h (by simp) (by simp) (by simp))
  case breakBegin => rw [doBreakBegin_frame d]; exact raising.congr h rfl rfl rfl
  case breakEnd => rw [doBreakEnd_frame d]; exact raising.congr h rfl rfl rfl
  case motorRunupStart =>
    simp only [doRunupStart] at d
    split at d <;> cases d
    exact raising.beginRunup h
  case runupTimeout =>
    simp only [doRunupTimeout] at d
    repeat' split at d
    all_goals cases d
    exact raising.enterFault (raising.congr h rfl rfl rfl)
  case repeatTimerExpiry =>
    simp only [doRepeat] at d
    split at d <;> cases d
    exact raising.strikeKey _ (raising.congr h rfl rfl rfl)
  case returnComplete =>
    simp only [doReturnComplete] at d
    split at d <;> cases d
    have width {u : State} (hu : P u) : P (putWaitingWidth u) := by
      rw [putWaitingWidth_frame]
      exact raising.congr hu rfl rfl rfl
    have checked {u : State} (hu : P u) : P (carriageHomeCheck u) := by
      unfold carriageHomeCheck
      split
      · exact raising.congr hu rfl rfl rfl
      · exact raising.raise _ _ (raising.haltPrinter _ (raising.congr hu rfl rfl rfl))
    exact checked (width (raising.congr h rfl rfl rfl))
  case printTake => rw [doPrintTake_frame d]; exact raising.congr h rfl rfl rfl
  case wheelTravelBegin => rw [doWheelTravel_frame d]; exact raising.congr h rfl rfl rfl
  case printActionBegin => rw [doPrintAction_frame d]; exact raising.congr h rfl rfl rfl
  case implicitNewlineBegin => rw [doImplicitNewline_frame d]; exact raising.congr h rfl rfl rfl
  case implicitReturnBegin => rw [doImplicitReturn_frame d]; exact raising.congr h rfl rfl rfl
  case wheelStepEnd => rw [doWheelStep_frame d]; exact raising.congr h rfl rfl rfl
  case strikeComplete => rw [doStrikeComplete_frame d]; exact raising.congr h rfl rfl rfl
  case advanceComplete => rw [doAdvanceComplete_frame d]; exact raising.congr h rfl rfl rfl
  case lineFeedComplete => rw [doLineFeedComplete_frame d]; exact raising.congr h rfl rfl rfl
  case punchTake => rw [doPunchTake_frame d]; exact raising.congr h rfl rfl rfl
  case blankCycleBegin => rw [doBlankCycle_frame d]; exact raising.congr h rfl rfl rfl
  case punchActionBegin => rw [doPunchAction_frame d]; exact raising.congr h rfl rfl rfl
  case punchStepComplete => rw [doPunchStep_frame d]; exact raising.congr h rfl rfl rfl
  case idleCountdownExpiry => rw [doIdleExpiry_frame d]; exact raising.congr h rfl rfl rfl
  case ringBegin => rw [doRingBegin_frame d]; exact raising.congr h rfl rfl rfl
  case ringEnd => rw [doRingEnd_frame d]; exact raising.congr h rfl rfl rfl
  case gapEnd => rw [doGapEnd_frame d]; exact raising.congr h rfl rfl rfl

end Raising

end Sys2Proof.Machine
end

section
/-! Every step keeps the event table and the outgoing link in order (R177, R186, R187, R198). The claim O60. -/

namespace Sys2Proof.Machine

/-! ## The event table (R198) -/

/-- One record of the table in order: count with flag, both within their limits (R198). -/
def EventRecord.ok (r : EventRecord) : Prop := (r.pending = true ↔ 1 ≤ r.count) ∧ r.count ≤ 255 ∧ r.priority ≤ 3

theorem getElem_set_event (v : Vector EventRecord 16) (e f : Fin 16) (r : EventRecord) :
    (v.set e r)[f] = if f = e then r else v[f] := by
  simp only [Fin.getElem_fin, Vector.getElem_set, Fin.ext_iff]
  simp only [eq_comm]

theorem EventRecord.ok.occur {r : EventRecord} (h : r.ok) (data : Option Byte) : (r.occur data).ok := by
  obtain ⟨flag, count, priority⟩ := h
  refine ⟨⟨fun _ => ?_, fun _ => rfl⟩, ?_, priority⟩ <;> simp only [EventRecord.occur, satAdd] <;> omega

theorem EventRecord.ok.cleared {r : EventRecord} (h : r.ok) : r.cleared.ok :=
  ⟨by simp [EventRecord.cleared], Nat.zero_le _, h.2.2⟩

/-- A record put into the table. -/
theorem EventsOk.set {s : State} (h : EventsOk s) (e : Fin 16) {r : EventRecord} (ok : r.ok) :
    EventsOk (s.setEvents (s.events.set e r)) := fun f => by
  show ((s.events.set e r)[f]).ok
  rw [getElem_set_event]
  split
  · exact ok
  · exact h f

theorem EventsOk.raise {s : State} (h : EventsOk s) (e : Fin 16) (data : Option Byte) : EventsOk (raise e data s) :=
  h.set e (EventRecord.ok.occur (h e) data)

theorem EventsOk.clearEvent {s : State} (h : EventsOk s) (e : Fin 16) : EventsOk (clearEvent e s) :=
  h.set e (EventRecord.ok.cleared (h e))

theorem EventsOk.clearEvents {s : State} (h : EventsOk s) (es : List (Fin 16)) : EventsOk (clearEvents es s) := by
  induction es generalizing s with
  | nil => exact h
  | cons e es ih => exact ih (h.clearEvent e)

/-- Each setting that has passed the check keeps the priorities within 0 to 3 (R200). -/
theorem EventsOk.applyEventSettings {s : State} (h : EventsOk s) {es : List (Byte × Byte × Byte)}
    (good : es.any eventSettingBad = false) : EventsOk (applyEventSettings es s) := by
  induction es generalizing s with
  | nil => exact h
  | cons e es ih =>
    simp only [List.any_cons, Bool.or_eq_false_iff] at good
    refine ih (h.set (eventOf e.1) ⟨(h _).1, (h _).2.1, ?_⟩) good.2
    have checked := good.1
    simp only [eventSettingBad, Bool.or_eq_false_iff, decide_eq_false_iff_not, not_lt] at checked
    exact checked.2

theorem applyEventSettings_pending (es : List (Byte × Byte × Byte)) (s : State) (f : Fin 16) :
    (applyEventSettings es s).events[f].pending = s.events[f].pending := by
  induction es generalizing s with
  | nil => rfl
  | cons e es ih =>
    refine (ih (applyEventSetting e s)).trans ?_
    show ((s.events.set (eventOf e.1) _)[f]).pending = _
    rw [getElem_set_event]
    split
    · next same => rw [same]
    · rfl

theorem EventsOk.raiseSenseChange {s : State} (h : EventsOk s) : EventsOk (raiseSenseChange s) := by
  unfold Machine.raiseSenseChange
  split
  · exact h.raise _ _
  · exact h

/-! ## SENSE_CHANGE (R177) -/

theorem pending_raise (s : State) (e f : Fin 16) (data : Option Byte) :
    (raise e data s).events[f].pending = (decide (f = e) || s.events[f].pending) := by
  show ((s.events.set e _)[f]).pending = _
  rw [getElem_set_event]
  by_cases same : f = e <;> simp [same, EventRecord.occur]

theorem SenseTold.raise {s : State} (h : SenseTold s) (e : Fin 16) (data : Option Byte) : SenseTold (raise e data s) :=
  fun differs => by rw [pending_raise, h differs, Bool.or_true]

/-- Raised where the states differ, SENSE_CHANGE is pending whatever stood before. -/
theorem senseTold_raiseSenseChange (s : State) : SenseTold (raiseSenseChange s) := by
  unfold raiseSenseChange
  split
  · intro _
    rw [pending_raise]
    rfl
  · next same => exact fun differs => absurd differs same

/-- Once the host has been told, the states do not differ. -/
theorem senseTold_markReported (s : State) : SenseTold (markReported s) := by
  have same : senseDiffers (markReported s) = false := by
    unfold senseDiffers
    rw [List.any_eq_false]
    simp [markReported]
  intro differs
  rw [same] at differs
  cases differs

theorem SenseTold.of_pending {s t : State} (h : SenseTold s) (sense : senseDiffers t = true → senseDiffers s = true)
    (pending : t.events[evSenseChange].pending = s.events[evSenseChange].pending) : SenseTold t := fun differs => by
  rw [pending]
  exact h (sense differs)

/-- The debounced states differ from those that the host was last told of (R177). -/
theorem senseDiffers_iff (s : State) :
    senseDiffers s = true ↔ ∃ k : Fin 6, s.sense[k].debounced ≠ s.sense[k].reported := by
  unfold senseDiffers
  simp only [List.any_eq_true, bne_iff_ne]
  constructor
  · rintro ⟨x, mem, ne⟩
    obtain ⟨k, hk, rfl⟩ := List.mem_iff_getElem.1 mem
    exact ⟨⟨k, by simpa using hk⟩, by simpa using ne⟩
  · rintro ⟨k, ne⟩
    exact ⟨s.sense[k], by simp, ne⟩

/-- The flags that the host is told of stay where polarity and pin change (R175). -/
theorem senseDiffers_congr {s t : State}
    (same : ∀ k : Fin 6, t.sense[k].debounced = s.sense[k].debounced ∧ t.sense[k].reported = s.sense[k].reported) :
    senseDiffers t = senseDiffers s := by
  rw [Bool.eq_iff_iff, senseDiffers_iff, senseDiffers_iff]
  simp only [same]

/-! ## The outgoing choice (R186, R187) -/

/-- After the choice the link is served (R187). -/
theorem linkServed_chooseOutgoing (s : State) : LinkServed (chooseOutgoing s) := by
  intro free
  cases out : s.link.out with
  | some o => rw [chooseOutgoing_busy s o out, out] at free; cases free
  | none =>
    cases waiting : s.link.waiting with
    | some r =>
      rw [chooseOutgoing_reply s r out waiting] at free
      cases r <;> cases free
    | none =>
      rw [chooseOutgoing_notice s out waiting] at free ⊢
      cases offer : offered s with
      | none =>
        exact ⟨waiting, offer⟩
      | some e =>
        simp only [offer, beginNotice] at free
        split at free <;> cases free

/-- The event table in order, the host told or SENSE_CHANGE pending, and one reply owed at most. -/
structure LinkOk (s : State) : Prop where
  events : EventsOk s
  told : SenseTold s
  owed : OneReplyOwed s

namespace LinkOk

theorem raising : Raising LinkOk where
  congr {s u} h link events sense := by
    obtain ⟨ok, told, owed⟩ := h
    refine ⟨?_, ?_, ?_⟩
    · unfold EventsOk
      rw [events]
      exact ok
    · unfold SenseTold senseDiffers
      rw [events, sense]
      exact told
    · unfold OneReplyOwed
      rw [link]
      exact owed
  raise e data h := ⟨h.events.raise e data, h.told.raise e data, h.owed⟩

/-- A notice clears its event, and with SENSE_CHANGE's the host is told (R177, R199). -/
theorem beginNotice {s : State} (h : LinkOk s) (e : Fin 16) : LinkOk (beginNotice e s) := by
  obtain ⟨ok, told, _⟩ := h
  by_cases sense : e = evSenseChange
  · subst sense
    have taken : EventsOk (takeEventData evSenseChange s) := ok.set evSenseChange (ok evSenseChange)
    exact ⟨taken.clearEvent evSenseChange, senseTold_markReported _, by rintro o eq reply; cases eq; cases reply⟩
  · have bytes (b : List Byte) : LinkOk (clearEvent e (beginSending b false s)) := by
      refine ⟨ok.clearEvent e, told.of_pending id ?_, by rintro o eq reply; cases eq; cases reply⟩
      show ((s.events.set e _)[evSenseChange]).pending = _
      rw [getElem_set_event, if_neg (Ne.symm sense)]
    simp only [Machine.beginNotice, takeEventData, if_neg sense]
    exact bytes _

theorem chooseOutgoing {s : State} (h : LinkOk s) : LinkOk (chooseOutgoing s) := by
  have ⟨ok, told, owed⟩ := h
  cases out : s.link.out with
  | some o => rw [chooseOutgoing_busy s o out]; exact h
  | none =>
    cases waiting : s.link.waiting with
    | some r =>
      rw [chooseOutgoing_reply s r out waiting]
      cases r with
      | record k p => exact ⟨ok, told, fun _ _ _ => rfl⟩
      | status => exact ⟨ok, senseTold_markReported _, fun _ _ _ => rfl⟩
    | none =>
      rw [chooseOutgoing_notice s out waiting]
      cases offer : offered s with
      | none => exact h
      | some e => exact h.beginNotice e

/-- A link on which the same record goes out and the same reply waits. -/
theorem of_link {s : State} {v : Link} (h : LinkOk s) (out : v.out = s.link.out) (waiting : v.waiting = s.link.waiting) :
    LinkOk (s.setLink v) := by
  obtain ⟨ok, told, owed⟩ := h
  refine ⟨ok, told, fun o eq reply => ?_⟩
  have eq : s.link.out = some o := out ▸ eq
  have := owed o eq reply
  exact waiting.trans this

theorem framingFault {s : State} (h : LinkOk s) : LinkOk (framingFault s) := by
  unfold Machine.framingFault
  split
  · exact h.of_link rfl rfl
  · exact raising.raise _ _ (h.of_link rfl rfl)

theorem emptyBuffer {s : State} (h : LinkOk s) : LinkOk (emptyBuffer s) := h.of_link rfl rfl

/-- A record of the table leaves the link to what takes it. -/
theorem dispatch_link (k : Byte) (p : List Byte) (s : State) : (dispatch k p s).2.link = s.link := by
  have kept : Raising fun u => u.link = s.link := ⟨fun h link _ _ => link.trans h, fun _ _ h => h⟩
  refine kept.records rfl (dispatch_effect k p s) ?_ ?_ ?_ ?_
  · intro p
    rw [doMotorAndBellSetup_frame]
  · intro p
    rw [doEventSetup_frame]
  · intro p
    rw [doEventClear_frame]
  · rw [restartAll_frame]

theorem clearNamed {s : State} (h : LinkOk s) (p : List Byte) : LinkOk (clearNamed p s) := by
  have ok := h.events.clearEvents (eventsNamed p)
  have owed : OneReplyOwed (clearEvents (eventsNamed p) s) := by
    rw [clearEvents_frame]
    exact h.owed
  have others : ∀ (es : List (Fin 16)) (u : State), evSenseChange ∉ es →
      (clearEvents es u).events[evSenseChange].pending = u.events[evSenseChange].pending := by
    intro es
    induction es with
    | nil => exact fun _ _ => rfl
    | cons e es ih =>
      intro u apart
      rw [List.mem_cons, not_or] at apart
      refine (ih (clearEvent e u) apart.2).trans ?_
      show ((u.events.set e _)[evSenseChange]).pending = _
      rw [getElem_set_event, if_neg apart.1]
  have sense : senseDiffers (clearEvents (eventsNamed p) s) = senseDiffers s := by
    rw [clearEvents_frame]
    rfl
  simp only [Machine.clearNamed]
  split
  · exact ⟨ok.raiseSenseChange, senseTold_raiseSenseChange _, by rw [raiseSenseChange_eq]; exact owed⟩
  · next kept =>
    refine ⟨ok, fun differs => ?_, owed⟩
    have pending := h.told (sense ▸ differs)
    rw [pending] at kept
    rw [others _ s (by simpa using kept)]
    exact pending

/-- RESTART clears every event, and raises SENSE_CHANGE again where it is due (R178, R204). -/
theorem restartEvents {s : State} (h : LinkOk s) : LinkOk (restartEvents s) := by
  have cleared : EventsOk (s.setEvents (s.events.map EventRecord.cleared)) := fun e => by
    show ((s.events.map EventRecord.cleared)[e]).ok
    simp only [Fin.getElem_fin, Vector.getElem_map]
    exact EventRecord.ok.cleared (h.events e)
  refine ⟨cleared.raiseSenseChange, senseTold_raiseSenseChange _, ?_⟩
  unfold Machine.restartEvents
  rw [raiseSenseChange_eq]
  exact h.owed

theorem records {k : Byte} {s t : State} (h : LinkOk s) (e : Effect s k t) : LinkOk t := by
  refine raising.records h e (fun p => ?_) (fun p => ?_) (fun p => ?_) ?_
  · have polarity (v : Vector Byte 6) (u : State) (hu : LinkOk u) : LinkOk (u.setSense
        (Vector.zipWith (fun i b => SenseInput.withPolarity i (b == 1) u.now) u.sense v)) := by
      refine ⟨hu.events, hu.told.of_pending (fun differs => ?_) rfl, hu.owed⟩
      rw [← differs]
      refine (senseDiffers_congr fun k => ?_).symm
      have turned (i : SenseInput) (low : Bool) (now : Nat) : (i.withPolarity low now).debounced = i.debounced
          ∧ (i.withPolarity low now).reported = i.reported := by
        unfold SenseInput.withPolarity
        split <;> exact ⟨rfl, rfl⟩
      simp [turned]
    simp only [doMotorAndBellSetup]
    repeat' split
    all_goals first | exact h | skip
    next p0 p1 p2 p3 p4 p5 _ =>
      exact raising.congr (polarity #v[p0, p1, p2, p3, p4, p5] (s.setSetup _) (raising.congr h rfl rfl rfl)) (by simp)
        (by simp) (by simp)
  · simp only [doEventSetup]
    repeat' split
    all_goals first | exact h | skip
    next good =>
      exact ⟨h.events.applyEventSettings (by simpa using good),
        h.told.of_pending (by rw [applyEventSettings_frame]; exact id) (applyEventSettings_pending _ s _),
        by rw [applyEventSettings_frame]; exact h.owed⟩
  · simp only [doEventClear]
    repeat' split
    · exact h
    · exact h
    · exact h.clearNamed p
  · refine restartEvents (raising.congr h ?_ ?_ ?_) <;>
      simp only [restartPunch, restartPrinter, restartKeyboard, restartReceiver, restartLine] <;> split <;>
      simp [resetRings]

theorem powerOn (rate : Bool) (s : State) : LinkOk (powerOn rate s) := by
  refine ⟨?_, senseTold_raiseSenseChange _, ?_⟩
  · refine EventsOk.raiseSenseChange fun e => ?_
    simp [State.reset, EventRecord.powerOn]
  · unfold Machine.powerOn
    rw [raiseSenseChange_eq]
    rintro o eq -
    cases eq

theorem debounceTo (k : Fin 6) (v : Bool) {s : State} (h : LinkOk s) : LinkOk (debounceTo k v s) := by
  have seen (i : SenseInput) : LinkOk (raiseSenseChange (setInput k i s)) :=
    ⟨EventsOk.raiseSenseChange (s := setInput k i s) h.events, senseTold_raiseSenseChange _,
      by rw [raiseSenseChange_eq]; exact h.owed⟩
  simp only [Machine.debounceTo]
  split
  · exact raising.senseAsserted k (seen _)
  · exact raising.senseReleased k (seen _)

/-- A pin changes neither what is debounced nor what has been reported (R175). -/
theorem doSensePin {k : Fin 6} {level : Bool} {time : Nat} {s t : State} (h : LinkOk s)
    (d : doSensePin k level time s = some t) : LinkOk t := by
  simp only [Machine.doSensePin] at d
  split at d <;> cases d
  refine ⟨h.events, h.told.of_pending (fun differs => ?_) rfl, h.owed⟩
  rw [← differs]
  refine (senseDiffers_congr fun j => ?_).symm
  by_cases same : j = k
  · subst same
    simp [setInput]
  · have ne : ¬ (k : Nat) = j := fun e => same (Fin.ext e.symm)
    simp [setInput, ne]

theorem takeRecord (k : Byte) (p : List Byte) {s : State} (h : LinkOk s) : LinkOk (takeRecord (dispatch k p) s) := by
  simp only [Machine.takeRecord]
  split
  · exact raising.raise _ _ h.emptyBuffer
  · next free =>
    have acted := h.emptyBuffer.records (dispatch_effect k p _)
    refine ⟨acted.events, acted.told, fun o eq reply => ?_⟩
    -- no reply is going out: one would have been owed
    rw [show (oweReply _ _).link.out = (dispatch k p (Machine.emptyBuffer s)).2.link.out from rfl, dispatch_link] at eq
    simp [replyOwed, eq, reply] at free

theorem takeByte (b : Byte) {s : State} (h : LinkOk s) : LinkOk (takeByte b s) := by
  unfold Machine.takeByte
  repeat' split
  all_goals first
    | exact h.of_link rfl rfl
    | exact h.framingFault
    | exact h.takeRecord _ _

theorem hostRecord (k : Byte) (p : List Byte) {s : State} (h : LinkOk s) :
    LinkOk (hostRecord p.length (dispatch k p) s) := by
  unfold Machine.hostRecord
  split
  · exact h.of_link rfl rfl
  · split
    · exact h.framingFault
    · exact h.takeRecord k p

theorem own {i : Instr} {f : State → Option State} {s t : State} (row : ownDo i = some f) (h : LinkOk s)
    (d : f s = some t) : LinkOk t := by
  refine raising.own row h d (fun d => ?_) (fun d => ?_) (fun d => ?_) (fun _ _ _ => h.doSensePin) ?_
  · simp only [doRecordEnd] at d
    split at d <;> cases d
    exact ⟨h.events, h.told, nofun⟩
  · simp only [doGapExpiry] at d
    repeat' split at d
    all_goals cases d
    · exact of_link (s := s.upTo _) (raising.congr h rfl rfl rfl) rfl rfl
    · exact raising.raise _ _ (raising.congr h rfl rfl rfl : LinkOk (s.upTo _)).emptyBuffer
  · simp only [doOverrun] at d
    split at d <;> cases d
    exact raising.raise _ _ h.emptyBuffer
  · rintro k v u rfl rfl
    exact debounceTo k v (raising.congr h rfl rfl rfl)

theorem step_keeps {s t : State} (h : LinkOk s) (d : step s = .next t) : LinkOk t :=
  have apart {s u : State} (h : LinkOk s) (link : u.link = s.link) (events : u.events = s.events)
      (sense : u.sense = s.sense) : LinkOk u := raising.congr h link events sense
  Machine.step_keeps LinkOk (fun _ _ h => apart h rfl rfl rfl) (fun _ _ h => apart h rfl rfl rfl)
    (fun _ h => apart h rfl rfl rfl)
    (fun _ _ _ => exec_keeps LinkOk (fun _ => chooseOutgoing) (fun _ _ h => apart h rfl rfl rfl)
      (fun _ _ h => apart h rfl rfl rfl) (fun rate s _ => powerOn rate s)
      (fun _ => framingFault) (fun b _ => takeByte b) (fun k p _ => hostRecord k p)
      (fun _ _ _ => raising.doMarkToSpace) (fun _ _ _ => raising.doSpaceToMark)
      (fun k c _ => raising.readKeyNow k c) (fun _ _ _ _ => own))
    h d

end LinkOk

/-! ## The link served at the end of every step (R187) -/

theorem LinkServed.of_eq {s t : State} (h : LinkServed s) (link : t.link = s.link) (events : t.events = s.events) :
    LinkServed t := by
  have offers : offered t = offered s := by simp only [offered, offerable, events]
  unfold LinkServed
  rw [link, offers]
  exact h

theorem linkServed_happen {o : Option State} {s t : State} (served : LinkServed s) (h : happen o s = .next t) :
    LinkServed t := by
  cases o with
  | none => cases h; exact served
  | some u => cases h; exact linkServed_chooseOutgoing u

theorem linkServed_exec {i : Instr} {s t : State} (served : LinkServed s) (h : exec i s = .next t) : LinkServed t := by
  have transition {o : Option State} (h : takeTransition o s = .next t) : LinkServed t := by
    unfold takeTransition at h
    split at h
    · exact linkServed_happen served h
    · cases h; exact served.of_eq rfl rfl
  cases row i with
  | record r => rw [exec_of_recordOf r] at h; cases h; exact linkServed_chooseOutgoing _
  | own r => rw [exec_of_ownDo r] at h; exact linkServed_happen served h
  | power rate => cases h; exact linkServed_chooseOutgoing _
  | unknown k p =>
    by_cases known : k ∈ commandKinds
    · rw [show exec (.unknownKind k p) s = .next s from if_pos (by simpa using known)] at h
      cases h; exact served
    · rw [exec_unknownKind known] at h
      cases h; exact linkServed_chooseOutgoing _
  | fault time => cases h; exact linkServed_chooseOutgoing _
  | byte b time => cases h; exact linkServed_chooseOutgoing _
  | falls time => exact transition h
  | rises time => exact transition h
  | key k closed => cases h; exact linkServed_chooseOutgoing _

theorem linkServed_step {s t : State} (served : LinkServed s) (h : step s = .next t) : LinkServed t :=
  step_keeps LinkServed (fun _ _ h => h.of_eq rfl rfl) (fun _ _ h => h.of_eq rfl rfl) (fun _ h => h.of_eq rfl rfl)
    (fun _ _ _ => linkServed_exec) served h

/-- Settles O60. -/
theorem linkStaysServed : Obligations.LinkStaysServed := by
  unfold Obligations.LinkStaysServed
  rintro s t ⟨events, told, served, owed⟩ next
  have kept := LinkOk.step_keeps ⟨events, told, owed⟩ next
  exact ⟨kept.events, kept.told, linkServed_step served next, kept.owed⟩

end Sys2Proof.Machine
end

section
/-! Every step keeps counts and setup values within their limits and the column on the line (R42, R43, R57, R107, R124,
R126, R127, R130, R140, R148 to R150, R156 to R159, R165, R179, R181). The claim O59. -/

namespace Sys2Proof.Machine

/-! ## Saturating counts and clamped values -/

theorem satAdd_le (limit n k : Nat) : satAdd limit n k ≤ limit := Nat.min_le_left _ _

theorem bump_le (n : Nat) : bump n ≤ 65535 := satAdd_le 65535 n 1

theorem clampNat_bounds {lo hi : Nat} (h : lo ≤ hi) (n : Nat) : lo ≤ clampNat lo hi n ∧ clampNat lo hi n ≤ hi := by
  unfold clampNat
  omega

/-! ## The values in order, block by block -/

/-- The punch's counts within their limits (R156, R157, R159, R165). -/
structure PunchCountsOk (p : Punch) : Prop where
  feeds : p.feeds ≤ 255
  run : p.runCount ≤ 255
  depth : p.eraseDepth ≤ 8
  punched : p.punched ≤ 65535
  erases : p.erases ≤ 65535

/-- The printer's count within its limit, its column on the line, and a waiting width in range (R127, R140, R148). -/
structure PrinterOk (p : Printer) (width : Nat) : Prop where
  strikes : p.strikes ≤ 65535
  column : 1 ≤ p.column
  reached : columnReached p ≤ width
  waiting : ∀ w, p.waitingWidth = some w → 40 ≤ w ∧ w ≤ 80

/-- The receiver's counts within their limits (R57). -/
structure StatsOk (r : RxStats) : Prop where
  good : r.good ≤ 65535
  stopError : r.stopError ≤ 65535
  collided : r.collided ≤ 65535
  falseStart : r.falseStart ≤ 65535
  warning : r.warning ≤ 65535

/-- The setup values in their ranges. -/
structure SetupOk (v : Setup) : Prop where
  line : v.line.inRange
  printer : v.printer.inRange
  keyboard : v.keyboard.inRange
  leader : v.punch.leader ≤ 31
  trailer : v.punch.trailer ≤ 31
  motor : v.motor.inRange

/-- Counts and setup values in order, but for the lost counts of the cursors. -/
structure ValuesOk (s : State) : Prop where
  bell : s.bell.count ≤ 3
  punch : PunchCountsOk s.punch
  printer : PrinterOk s.printer s.setup.printer.width
  sent : s.transmitter.sent ≤ 65535
  dropped : s.transmitter.dropped ≤ 65535
  stats : StatsOk s.receiver.stats
  setup : SetupOk s.setup

theorem values_iff (s : State) :
    CountsOk s ∧ SetupInRange s ∧ ColumnOnLine s ↔ ValuesOk s ∧ ∀ c : CursorId, (s.cursor c).lost ≤ 65535 := by
  constructor
  · rintro ⟨⟨bell, feeds, run, depth, punched, erases, strikes, column, sent, dropped, good, stopError, collided,
      falseStart, warning, lost⟩, ⟨line, printer, keyboard, leader, trailer, motor, waiting⟩, _, reached⟩
    exact ⟨⟨bell, ⟨feeds, run, depth, punched, erases⟩, ⟨strikes, column, reached, waiting⟩, sent, dropped,
      ⟨good, stopError, collided, falseStart, warning⟩, ⟨line, printer, keyboard, leader, trailer, motor⟩⟩, lost⟩
  · rintro ⟨⟨bell, ⟨feeds, run, depth, punched, erases⟩, ⟨strikes, column, reached, waiting⟩, sent, dropped,
      ⟨good, stopError, collided, falseStart, warning⟩, ⟨line, printer, keyboard, leader, trailer, motor⟩⟩, lost⟩
    exact ⟨⟨bell, feeds, run, depth, punched, erases, strikes, column, sent, dropped, good, stopError, collided,
      falseStart, warning, lost⟩, ⟨line, printer, keyboard, leader, trailer, motor, waiting⟩, column, reached⟩

/-! ## The lost counts (R23) -/

/-- A cursor whose lost count is kept or has saturated. -/
theorem lost_setCursor {s : State} (h : ∀ c : CursorId, (s.cursor c).lost ≤ 65535) (c : CursorId) {v : Cursor}
    (lost : v.lost ≤ 65535) (d : CursorId) : ((s.setCursor c v).cursor d).lost ≤ 65535 := by
  by_cases same : d = c
  · rw [same, setCursor_cursor_same]
    exact lost
  · rw [setCursor_cursor_other same]
    exact h d

/-- The lost counts of the cursors lie within their limit (R23). -/
def LostOk (s : State) : Prop := ∀ c : CursorId, (s.cursor c).lost ≤ 65535

namespace LostOk

theorem of_cursors {s t : State} (h : LostOk s) (cursors : t.store.cursors = s.store.cursors) : LostOk t := fun c => by
  rw [State.cursor, cursors]
  exact h c

theorem of_store {s t : State} (h : LostOk s) (store : t.store = s.store) : LostOk t := h.of_cursors (by rw [store])

theorem lapCursor {s : State} (h : LostOk s) (c : CursorId) (n : Nat) : LostOk (lapCursor c n s) :=
  lost_setCursor h c (satAdd_le _ _ _)

theorem lapIfOver {s : State} (h : LostOk s) (c : CursorId) : LostOk (lapIfOver c s) := by
  unfold Machine.lapIfOver
  split
  · exact h.lapCursor c 1
  · exact h

theorem writeTraffic {s : State} (h : LostOk s) (e : Entry) : LostOk (writeTraffic e s) :=
  lapIfOver (lapIfOver (lapIfOver (s := appendEntry .traffic e s) h .printP) .punchT) .hostT

theorem putText (i : RingId) (o : Origin) (xs : List (Code × Plane)) {s : State} (h : LostOk s) :
    LostOk (putText i o xs s) := by
  induction xs generalizing s with
  | nil => exact h
  | cons x xs ih =>
    refine ih (of_cursors (s := s) h ?_)
    cases i <;> rfl

theorem returnEntry {s : State} (h : LostOk s) (x : Held) : LostOk (returnEntry x s) := by
  unfold Machine.returnEntry
  split
  · exact h
  · split
    · exact lost_setCursor h _ (h _)
    · exact lost_setCursor h _ (satAdd_le _ _ _)

theorem returnPrinterHeld {s : State} (h : LostOk s) : LostOk (returnPrinterHeld s) := by
  unfold Machine.returnPrinterHeld
  split
  · exact h
  · exact h.returnEntry _

theorem returnPunchHeld {s : State} (h : LostOk s) : LostOk (returnPunchHeld s) := by
  unfold Machine.returnPunchHeld
  split
  · exact h
  · exact h.returnEntry _

theorem advanceCursor {s : State} (h : LostOk s) (c : CursorId) (n : Nat) : LostOk (advanceCursor c n s) :=
  lost_setCursor h c (h c)

theorem setUnread {s : State} (h : LostOk s) (c : CursorId) (n : Nat) : LostOk (setUnread c n s) :=
  lost_setCursor h c (h c)

theorem detachCursor {s : State} (h : LostOk s) (c : CursorId) : LostOk (detachCursor c s) :=
  lost_setCursor h c (h c)

theorem attachCursor {s : State} (h : LostOk s) (c : CursorId) : LostOk (attachCursor c s) := by
  simp only [Machine.attachCursor]
  split
  · exact h
  · split
    · exact lost_setCursor (h.lapCursor c _) c (h.lapCursor c _ c)
    · exact lost_setCursor h c (h c)

theorem takeEntry {s t : State} {c : CursorId} {e : Entry} (h : LostOk s) (d : takeEntry c s = some (e, t)) :
    LostOk t := by
  rw [(takeEntry_eq d).2]
  exact (h.advanceCursor c 1).of_store (by simp)

theorem takeForPunch (n : Nat) (c : CursorId) {s : State} (h : LostOk s) : LostOk (takeForPunch n c s) := by
  induction n generalizing s with
  | zero => exact h
  | succ n ih =>
    simp only [Machine.takeForPunch]
    split
    · exact h
    · next taken =>
      split
      · exact ih (h.takeEntry taken)
      · exact of_store (h.takeEntry taken) rfl

theorem resetRings (s : State) : LostOk (resetRings s) := fun c => by
  have store : (Machine.resetRings s).store = s.store.rewound := by simp [Machine.resetRings]
  rw [State.cursor, store]
  show (s.store.cursors.rewound.get c).lost ≤ 65535
  rw [Cursors.get_rewound]
  exact Nat.zero_le _

theorem storeClosed : StoreClosed LostOk where
  congr h store _ _ _ := h.of_store store
  printer _ _ _ h := h
  punch _ _ _ h := h
  haltPrinter set h := by
    unfold haltPrinter
    split
    · exact h
    · exact h.returnPrinterHeld
  haltPunch set h := by
    unfold haltPunch
    split
    · exact h
    · exact h.returnPunchHeld
  printTake d h := by
    simp only [doPrintTake] at d
    repeat' split at d
    all_goals cases d
    next taken => exact of_store (h.takeEntry taken) rfl
  punchTake d h := by
    simp only [doPunchTake] at d
    repeat' split at d
    all_goals cases d
    exact takeForPunch _ _ h
  sendTake d h := h.takeEntry d
  traffic e _ h := h.writeTraffic e
  text i o xs _ _ _ h := putText i o xs h
  erase _ h := h
  flags _ _ _ h := h
  station {s} m h := by
    simp only [changeStation]
    split
    · exact h
    · exact ((h.returnPrinterHeld.detachCursor s.modes.station.cursor).attachCursor m.cursor).of_store (by simp)
  source {s} m h := by
    have left : LostOk (leaveSource s.modes.source.cursor (Machine.returnPunchHeld s)) := by
      cases s.modes.source with
      | off => exact h.returnPunchHeld
      | traffic => exact (h.returnPunchHeld.detachCursor .punchT).of_store (by simp [leaveSource, PunchSource.cursor])
      | loc => exact (h.returnPunchHeld.detachCursor .punchL).of_store (by simp [leaveSource, PunchSource.cursor])
    simp only [changeSource]
    split
    · exact h
    · cases m with
      | off => exact left
      | traffic => exact left.attachCursor .punchT
      | loc => exact left.attachCursor .punchL
  divert {s} h := by
    unfold divertPunch
    split
    · have moved : LostOk ((s.setModes { s.modes with source := .traffic }).setCursor .punchT
          { s.cursor .punchT with r := (s.cursor .printP).r }) := lost_setCursor h .punchT (h .punchT)
      exact moved.attachCursor .punchT
    · exact h
  read c count _ h := by
    simp only [afterTake]
    split
    · exact h
    · exact of_store (h.advanceCursor c _) (testLockOn_frame _ _).2.2.2.1
  move {s} c delta h := by
    refine (h.setUnread c (movedUnread s c delta)).of_store ?_
    simp only [moveCursor]
    split <;> split <;> simp [markHeld]
  attach c _ h := h.attachCursor c
  detach c _ h := by
    unfold detachHost
    split
    · exact (h.detachCursor c).of_store (by simp)
    · exact h
  cancel {s} h := (h.setUnread .xmit 0).of_cursors (by simp [cancelText, setWriterPlane])
  layout _ _ _ _ _ _ _ _ _ := resetRings _
  restart {s} _ := (resetRings s).of_store (restartAll_store s)
  power {s} rate := by
    have store : (powerOn rate s).store = .powerOn := by simp [powerOn, State.reset]
    intro c
    rw [State.cursor, store]
    cases c <;> exact Nat.zero_le _

end LostOk

end Sys2Proof.Machine
end

section
/-! The values that every step keeps in order, block by block, and the claim O59. -/

namespace Sys2Proof.Machine

/-- The counts of the punch are as they were. -/
def SameTape (p q : Punch) : Prop :=
  q.feeds = p.feeds ∧ q.runCount = p.runCount ∧ q.eraseDepth = p.eraseDepth ∧ q.punched = p.punched
  ∧ q.erases = p.erases

/-- The count of the printer, its carriage and its waiting width are as they were. -/
def SameCarriage (p q : Printer) : Prop :=
  q.strikes = p.strikes ∧ q.column = p.column ∧ q.hammer = p.hammer ∧ q.carriage = p.carriage
  ∧ q.waitingWidth = p.waitingWidth

theorem SameTape.refl (p : Punch) : SameTape p p := ⟨rfl, rfl, rfl, rfl, rfl⟩

theorem SameCarriage.refl (p : Printer) : SameCarriage p p := ⟨rfl, rfl, rfl, rfl, rfl⟩

theorem SameTape.ok {p q : Punch} (h : SameTape p q) (ok : PunchCountsOk p) : PunchCountsOk q := by
  obtain ⟨feeds, run, depth, punched, erases⟩ := h
  constructor
  · rw [feeds]; exact ok.feeds
  · rw [run]; exact ok.run
  · rw [depth]; exact ok.depth
  · rw [punched]; exact ok.punched
  · rw [erases]; exact ok.erases

theorem SameCarriage.ok {p q : Printer} {width : Nat} (h : SameCarriage p q) (ok : PrinterOk p width) :
    PrinterOk q width := by
  obtain ⟨strikes, column, hammer, carriage, waiting⟩ := h
  constructor
  · rw [strikes]; exact ok.strikes
  · rw [column]; exact ok.column
  · unfold columnReached
    rw [column, hammer, carriage]
    exact ok.reached
  · rw [waiting]; exact ok.waiting

namespace ValuesOk

/-- No count, no setup value, and nothing of the carriage has changed. -/
theorem congr {s u : State} (h : ValuesOk s) (bell : u.bell = s.bell)
    (punch : SameTape s.punch u.punch) (printer : SameCarriage s.printer u.printer)
    (transmitter : u.transmitter.sent = s.transmitter.sent ∧ u.transmitter.dropped = s.transmitter.dropped)
    (stats : u.receiver.stats = s.receiver.stats) (setup : u.setup = s.setup) : ValuesOk u := by
  obtain ⟨sent, dropped⟩ := transmitter
  constructor
  · rw [bell]; exact h.bell
  · exact punch.ok h.punch
  · rw [setup]; exact printer.ok h.printer
  · rw [sent]; exact h.sent
  · rw [dropped]; exact h.dropped
  · rw [stats]; exact h.stats
  · rw [setup]; exact h.setup

/-- Neither bell, printer, punch, transmitter, receiver nor setup has changed. -/
theorem same {s u : State} (h : ValuesOk s) (bell : u.bell = s.bell) (punch : u.punch = s.punch)
    (printer : u.printer = s.printer) (transmitter : u.transmitter = s.transmitter)
    (receiver : u.receiver = s.receiver) (setup : u.setup = s.setup) : ValuesOk u :=
  h.congr bell (punch ▸ .refl _) (printer ▸ .refl _) (by rw [transmitter]; exact ⟨rfl, rfl⟩) (by rw [receiver]) setup

theorem inert : Inert ValuesOk where
  now _ _ h := h.same rfl rfl rfl rfl rfl rfl
  ticket _ _ h := h.same rfl rfl rfl rfl rfl rfl
  pending _ _ h := h.same rfl rfl rfl rfl rfl rfl
  ahead _ _ h := h.congr rfl (.refl _) (.refl _) ⟨rfl, rfl⟩ rfl rfl
  link _ _ h := h.same rfl rfl rfl rfl rfl rfl
  events _ _ h := h.same rfl rfl rfl rfl rfl rfl
  sense _ _ h := h.same rfl rfl rfl rfl rfl rfl

section
variable {s : State} (h : ValuesOk s)
include h

theorem setPunch {v : Punch} (punch : PunchCountsOk v) : ValuesOk (s.setPunch v) :=
  ⟨h.bell, punch, h.printer, h.sent, h.dropped, h.stats, h.setup⟩

theorem setPrinter {v : Printer} (printer : PrinterOk v s.setup.printer.width) : ValuesOk (s.setPrinter v) :=
  ⟨h.bell, h.punch, printer, h.sent, h.dropped, h.stats, h.setup⟩

theorem sameCarriage {v : Printer} (same : SameCarriage s.printer v) : ValuesOk (s.setPrinter v) :=
  h.setPrinter (same.ok h.printer)

theorem sameTape {v : Punch} (same : SameTape s.punch v) : ValuesOk (s.setPunch v) :=
  h.setPunch (same.ok h.punch)

theorem setReceiver {v : Receiver} (stats : StatsOk v.stats) : ValuesOk (s.setReceiver v) :=
  ⟨h.bell, h.punch, h.printer, h.sent, h.dropped, stats, h.setup⟩

theorem setTransmitter {v : Transmitter} (sent : v.sent ≤ 65535) (dropped : v.dropped ≤ 65535) :
    ValuesOk (s.setTransmitter v) :=
  ⟨h.bell, h.punch, h.printer, sent, dropped, h.stats, h.setup⟩

theorem setBell {v : Bell} (bell : v.count ≤ 3) : ValuesOk (s.setBell v) :=
  ⟨bell, h.punch, h.printer, h.sent, h.dropped, h.stats, h.setup⟩

theorem raise (e : Fin 16) (data : Option Byte) : ValuesOk (raise e data s) := inert.events s _ h

/-! ## Halts, returns and changes of mode -/

theorem loadIdle : ValuesOk (loadIdle s) := h.same (by simp) (by simp) (by simp) (by simp) (by simp) (by simp)

theorem haltPrinter (set : PrinterHalts → PrinterHalts) : ValuesOk (haltPrinter set s) := by
  refine h.congr (by simp) (by simp [SameTape]) ?_ (by simp) (by simp) (by simp)
  unfold Machine.haltPrinter returnPrinterHeld
  split
  · exact .refl _
  · split <;> exact .refl _

theorem haltPunch (set : PunchHalts → PunchHalts) : ValuesOk (haltPunch set s) := by
  refine h.congr (by simp) ?_ (by simp [SameCarriage]) (by simp) (by simp) (by simp)
  unfold Machine.haltPunch returnPunchHeld
  split
  · exact .refl _
  · split <;> exact .refl _

theorem changeStation (m : StationMode) : ValuesOk (changeStation m s) := by
  refine h.congr (by simp) (by simp [SameTape]) ?_ (by simp) (by simp) (by simp)
  have returned : SameCarriage s.printer (returnPrinterHeld s).printer := by
    unfold returnPrinterHeld
    split <;> exact .refl _
  simp only [Machine.changeStation]
  split
  · exact .refl _
  · simpa using returned

theorem forgetRun : ValuesOk (forgetRun s) :=
  h.setPunch ⟨h.punch.feeds, Nat.zero_le _, Nat.zero_le _, h.punch.punched, h.punch.erases⟩

theorem returnPunchHeld : ValuesOk (returnPunchHeld s) := by
  refine h.congr (by simp) ?_ (by simp [SameCarriage]) (by simp) (by simp) (by simp)
  unfold Machine.returnPunchHeld
  split <;> exact .refl _

theorem changeSource (m : PunchSource) : ValuesOk (changeSource m s) := by
  simp only [Machine.changeSource]
  split
  · exact h
  · exact forgetRun (h.returnPunchHeld.same (by simp) (by simp) (by simp) (by simp) (by simp) (by simp))

theorem divertPunch : ValuesOk (divertPunch s) := by
  unfold Machine.divertPunch
  split
  · exact (forgetRun (h.same (by simp) (by simp) (by simp) (by simp) (by simp) (by simp))).raise _ _
  · exact h

/-! ## Bell, transmitter and receiver -/

theorem ringBell (n : Nat) : ValuesOk (ringBell n s) := h.setBell (satAdd_le _ _ _)

theorem startRing : ValuesOk (startRing s) := h.setBell ((Nat.sub_le _ _).trans h.bell)

theorem ringAtOnce : ValuesOk (ringAtOnce s) := by
  simp only [Machine.ringAtOnce, doRingBegin]
  split
  · exact h.startRing
  · exact h

theorem requestAnswerBack (wru : Bool) : ValuesOk (requestAnswerBack wru s) := by
  unfold Machine.requestAnswerBack
  split
  · exact h.setTransmitter h.sent h.dropped
  · exact h.setTransmitter h.sent (bump_le _)
  · exact h

theorem haltSending (why : HaltReason) : ValuesOk (haltSending why s) := by
  unfold Machine.haltSending
  split
  · exact h
  · exact raise (s := s.setTransmitter { s.transmitter with halt := some why })
      (h.setTransmitter h.sent h.dropped) _ _

theorem echoFailed : ValuesOk (echoFailed s) :=
  haltSending (s := s.setTransmitter { s.transmitter with echo := none }) (h.setTransmitter h.sent h.dropped) .collision

theorem addFeeds (n : Nat) : ValuesOk (addFeeds n s) :=
  h.setPunch ⟨satAdd_le _ _ _, h.punch.run, h.punch.depth, h.punch.punched, h.punch.erases⟩

theorem countCharacter (q : Quality) (early late : Nat) : ValuesOk (countCharacter q early late s) := by
  have counted : StatsOk (s.receiver.stats.count q) := by
    obtain ⟨good, stopError, collided, falseStart, warning⟩ := h.stats
    cases q <;> constructor <;> simp only [RxStats.count] <;> first | assumption | exact bump_le _
  simp only [Machine.countCharacter]
  split
  · split
    · exact (h.setReceiver ⟨counted.good, counted.stopError, counted.collided, counted.falseStart, bump_le _⟩).raise _ _
    · exact h.setReceiver ⟨counted.good, counted.stopError, counted.collided, counted.falseStart, bump_le _⟩
  · exact h.setReceiver ⟨counted.good, counted.stopError, counted.collided, counted.falseStart, counted.warning⟩

/-! ## The connection controller and motor control -/

theorem enterFree : ValuesOk (enterFree s) := by
  have closed : ValuesOk (closeMarker s) := h.same (by simp) (by simp) (by simp) (by simp) (by simp) (by simp)
  have freed {u : State} (hu : ValuesOk u) (v : Controller) :
      ValuesOk (stopCounter (dropRequests (u.setController v))) :=
    hu.congr rfl (.refl _) (.refl _) ⟨rfl, rfl⟩ rfl rfl
  unfold Machine.enterFree
  split
  · exact freed closed _
  · exact freed h _

theorem enterClearing : ValuesOk (enterClearing s) := by
  rw [enterClearing_eq]
  exact h.congr rfl (.refl _) (.refl _) ⟨rfl, rfl⟩ rfl rfl

theorem enterEstablished : ValuesOk (enterEstablished s) := by
  have entered : ValuesOk (Machine.raise evEstablished none (markBreakPassed (setLine .established s))) := by
    refine raise (s := markBreakPassed (setLine .established s)) ?_ _ _
    unfold markBreakPassed
    repeat' split
    all_goals exact h.congr rfl (.refl _) (.refl _) ⟨rfl, rfl⟩ rfl rfl
  simp only [Machine.enterEstablished]
  split
  · exact entered.requestAnswerBack false
  · exact entered

theorem enterRefusing : ValuesOk (enterRefusing s) := by
  simp only [Machine.enterRefusing]
  split
  · exact enterClearing (h.same rfl rfl rfl rfl rfl rfl)
  · exact h.congr rfl (.refl _) (.refl _) ⟨rfl, rfl⟩ rfl rfl

theorem lettersPlanes : ValuesOk (lettersPlanes s) := h.congr rfl (.refl _) (.refl _) ⟨rfl, rfl⟩ rfl rfl

theorem wakingFault : ValuesOk (wakingFault s) := by
  unfold Machine.wakingFault
  split
  · exact h.lettersPlanes.enterRefusing
  · exact h.enterClearing

theorem enterWaking : ValuesOk (enterWaking s) := by
  have waking : ValuesOk (setLine .waking s) := h.same rfl rfl rfl rfl rfl rfl
  simp only [Machine.enterWaking]
  split
  · exact waking.enterEstablished
  · exact waking.wakingFault
  · exact waking
  · exact waking

theorem enterCall (kind : CallKind) (accepted : Bool) : ValuesOk (enterCall kind accepted s) := by
  have called : ValuesOk (s.setController { s.controller with callKind := some kind }) :=
    h.same rfl rfl rfl rfl rfl rfl
  have ready {u : State} (hu : ValuesOk u) : ValuesOk (Machine.lettersPlanes (openMarker u)) :=
    lettersPlanes (hu.same (by simp) (by simp) (by simp) (by simp) (by simp) (by simp))
  simp only [Machine.enterCall]
  split <;> split
  · exact enterWaking (ready (called.changeStation .online))
  · exact enterWaking (ready called)
  · exact enterRefusing (ready (called.changeStation .online))
  · exact enterRefusing (ready called)

theorem enterRunning : ValuesOk (enterRunning s) := by
  have running : ValuesOk (resumePunchStep (Machine.loadIdle
      (s.setMotor { state := .running, runupEnds := none, idleEnds := none }))) := by
    have started := loadIdle (s := s.setMotor { state := .running, runupEnds := none, idleEnds := none })
      (h.same rfl rfl rfl rfl rfl rfl)
    unfold resumePunchStep
    split
    · exact loadIdle (started.setPunch ⟨started.punch.feeds, started.punch.run, started.punch.depth,
        started.punch.punched, started.punch.erases⟩)
    · exact started
  simp only [Machine.enterRunning]
  split
  · exact running.enterEstablished
  · exact running

theorem beginRunup : ValuesOk (beginRunup s) := by
  simp only [Machine.beginRunup]
  split
  · exact enterRunning (h.same rfl rfl rfl rfl rfl rfl)
  · exact h.same rfl rfl rfl rfl rfl rfl

theorem enterFault : ValuesOk (enterFault s) := by
  have fault : ValuesOk (Machine.raise evMechFault (some faultMotor)
      ((s.setMotor { state := .fault, runupEnds := none, idleEnds := none }).setPrinter
        { s.printer with unsure := true })) := h.congr rfl (.refl _) (.refl _) ⟨rfl, rfl⟩ rfl rfl
  simp only [Machine.enterFault]
  split
  · exact fault.wakingFault
  · exact fault

/-! ## The keyboard -/

theorem lockKeyboard : ValuesOk (lockKeyboard s) := by
  have locked : ValuesOk (s.setKeyboard { s.keyboard with locked := true }) := h.same rfl rfl rfl rfl rfl rfl
  exact (locked.ringBell 1).raise _ _

theorem strikeCode (c : Code) (need : Option Plane) : ValuesOk (strikeCode c need s) := by
  unfold Machine.strikeCode
  split
  · exact h
  · split
    · next written => rw [putChar_frame written]; exact h.same rfl rfl rfl rfl rfl rfl
    · exact h.lockKeyboard

theorem strikeErase : ValuesOk (strikeErase s) := by
  unfold Machine.strikeErase
  repeat' split
  · exact h
  · exact h.same rfl rfl rfl rfl rfl rfl
  · exact h.lockKeyboard

theorem strikeKey (k : Fin 64) : ValuesOk (strikeKey k s) := by
  unfold Machine.strikeKey
  split
  · exact h.strikeCode _ _
  · exact h.strikeErase
  · exact h

theorem pressKey (k : Fin 64) : ValuesOk (pressKey k s) := by
  have down : ValuesOk (setKey k .down s) := h.same rfl rfl rfl rfl rfl rfl
  simp only [Machine.pressKey]
  split
  · exact down
  · split
    · exact down.strikeCode _ _
    · exact h.same rfl rfl rfl rfl rfl rfl
  · unfold pressHereIs
    split
    · unfold hereIsLocal
      repeat' split
      · exact down
      · rw [putText_frame]; exact down.same rfl rfl rfl rfl rfl rfl
      · exact down.lockKeyboard
    · split
      · exact down.requestAnswerBack false
      · exact down
  · exact down
  · exact down.strikeErase
  · unfold pressBreak requestBreak
    repeat' split
    · exact down
    · exact down.congr rfl (.refl _) (.refl _) ⟨rfl, rfl⟩ rfl rfl
    · exact down
  · exact addFeeds (s := setFeeding k true (setKey k .down s)) (h.same rfl rfl rfl rfl rfl rfl) 1
  · exact down.changeStation _

theorem readKeyNow (k : Fin 64) (closed : Bool) : ValuesOk (readKeyNow k closed s) := by
  have updated {u : State} (hu : ValuesOk u) : ValuesOk (updateRepeat u) :=
    hu.same (by simp) (by simp) (by simp) (by simp) (by simp) (by simp)
  have read (v : Keyboard) : ValuesOk (s.setKeyboard v) := h.same rfl rfl rfl rfl rfl rfl
  simp only [Machine.readKeyNow]
  split
  · exact updated ((read _).same rfl rfl rfl rfl rfl rfl)
  · exact updated ((read _).pressKey k)
  · exact updated ((read _).same rfl rfl rfl rfl rfl rfl)

/-! ## The print engine (R130 to R133, R137 to R142) -/

/-- A return takes the carriage to column 1, where it may strike once more (R131). -/
theorem beginReturn : ValuesOk (beginReturn s) := by
  refine loadIdle (h.setPrinter ⟨h.printer.strikes, h.printer.column, ?_, h.printer.waiting⟩)
  have := h.printer.reached
  unfold columnReached at this ⊢
  simp only
  omega

theorem beginFeeds (n : Nat) : ValuesOk (beginFeeds n s) := by
  unfold Machine.beginFeeds
  split
  · exact h
  · exact loadIdle (h.sameCarriage ⟨rfl, rfl, rfl, rfl, rfl⟩)

/-- An advance from below the width ends within it (R130, R140). -/
theorem beginAdvance (below : s.printer.column < s.setup.printer.width) (hammer : s.printer.hammer = none) :
    ValuesOk (beginAdvance s) := by
  refine loadIdle (h.setPrinter ⟨h.printer.strikes, h.printer.column, ?_, h.printer.waiting⟩)
  simp only [columnReached, hammer]
  omega

theorem markerReturn : ValuesOk (markerReturn s) := by
  unfold Machine.markerReturn
  split
  · exact h.beginReturn
  · exact h

theorem beginHeld {t : State} (d : beginHeld s = some t) : ValuesOk t := by
  simp only [Machine.beginHeld] at d
  repeat' split at d
  all_goals cases d
  next a _ ready =>
  have emptied {u : State} (hu : ValuesOk u) : ValuesOk (emptyPrintSlot u) :=
    hu.sameCarriage ⟨rfl, rfl, rfl, rfl, rfl⟩
  refine emptied ?_
  cases a with
  | strike g =>
    -- a strike at the width is followed by no advance, and begins under auto newline off alone
    simp only [actionReady, Bool.and_eq_true, needsNewline, PrintAction.needsColumn, allIdle, hammerIdle, carriageIdle,
      Bool.true_and, Bool.not_eq_true', Bool.and_eq_false_iff, beq_iff_eq, Option.isNone_iff_eq_none] at ready
    obtain ⟨⟨⟨⟨_, noNewline⟩, _⟩, _⟩, ⟨noStrike, still⟩, _⟩ := ready
    have reached := h.printer.reached
    refine loadIdle (h.setPrinter ⟨bump_le _, h.printer.column, ?_, h.printer.waiting⟩)
    simp only [columnReached, noStrike, still] at reached ⊢
    cases auto : s.setup.printer.autoNewline <;> cases wide : atWidth s <;> simp_all
    all_goals
      simp [atWidth] at wide
      omega
  | space =>
    simp only [actionReady, Bool.and_eq_true, hammerIdle, Option.isNone_iff_eq_none] at ready
    simp only [beginAction]
    split
    · exact h
    · next wide =>
      refine h.beginAdvance ?_ ready.1.2
      simpa [atWidth] using wide
  | cr => exact h.beginReturn
  | lf => exact h.beginFeeds 1
  | bell => exact h.ringBell 1
  | nothing => exact h
  | connect => exact h.markerReturn.beginFeeds 1
  | clear => exact h.markerReturn.beginFeeds _

end

theorem takeEntry {s t : State} {c : CursorId} {e : Entry} (h : ValuesOk s) (d : takeEntry c s = some (e, t)) :
    ValuesOk t := by
  rw [(takeEntry_eq d).2]
  exact h.same (by simp [advanceCursor]) (by simp [advanceCursor]) (by simp [advanceCursor]) (by simp [advanceCursor])
    (by simp [advanceCursor]) (by simp [advanceCursor])

theorem doPrintTake {s t : State} (h : ValuesOk s) (d : doPrintTake s = some t) : ValuesOk t := by
  simp only [Machine.doPrintTake] at d
  repeat' split at d
  all_goals cases d
  next taken => exact (h.takeEntry taken).sameCarriage ⟨rfl, rfl, rfl, rfl, rfl⟩

theorem printGoesOn {s : State} (h : ValuesOk s) : ValuesOk (printGoesOn s) := by
  suffices run : ∀ n (u : State), ValuesOk u → ValuesOk (printRun n u) from run _ s h
  intro n
  induction n with
  | zero => exact fun _ hu => hu
  | succ n ih =>
    intro u hu
    simp only [printRun]
    split
    · exact hu
    · next taken =>
      split
      · exact hu.doPrintTake taken
      · next begun => exact ih _ ((hu.doPrintTake taken).ringAtOnce.beginHeld begun)

/-! ## The punch engine (R155 to R159) -/

theorem takeForPunch (n : Nat) (c : CursorId) {s : State} (h : ValuesOk s) : ValuesOk (takeForPunch n c s) := by
  induction n generalizing s with
  | zero => exact h
  | succ n ih =>
    simp only [Machine.takeForPunch]
    split
    · exact h
    · next taken =>
      split
      · exact ih (h.takeEntry taken)
      · exact (h.takeEntry taken).sameTape ⟨rfl, rfl, rfl, rfl, rfl⟩

theorem doPunchTake {s t : State} (h : ValuesOk s) (d : doPunchTake s = some t) : ValuesOk t := by
  simp only [Machine.doPunchTake] at d
  repeat' split at d
  all_goals cases d
  exact takeForPunch _ _ h

theorem beginWork {s : State} (steps : List PunchStep) (h : ValuesOk s) : ValuesOk (beginWork steps s) := by
  unfold Machine.beginWork
  split
  · exact h
  · exact loadIdle (h.sameTape ⟨rfl, rfl, rfl, rfl, rfl⟩)

theorem punchEntry {s : State} (e : Entry) (h : ValuesOk s) : ValuesOk (punchEntry e s) := by
  obtain ⟨feeds, run, depth, punched, erases⟩ := h.punch
  simp only [Machine.punchEntry]
  split
  · exact h
  · split
    · exact beginWork _ (h.setPunch ⟨feeds, satAdd_le _ _ _, Nat.zero_le _, bump_le _, erases⟩)
    · simp only [beginErase]
      split
      · next within => exact beginWork _ (h.setPunch ⟨feeds, run, within.1, punched, bump_le _⟩)
      · exact beginWork _ (h.setPunch ⟨feeds, satAdd_le _ _ _, Nat.zero_le _, punched, bump_le _⟩)
    · exact h.addFeeds _
    · exact h.setPunch ⟨satAdd_le _ _ _, Nat.zero_le _, depth, punched, erases⟩

theorem beginPunchHeld {s t : State} (h : ValuesOk s) (d : beginPunchHeld s = some t) : ValuesOk t := by
  simp only [Machine.beginPunchHeld] at d
  repeat' split at d
  all_goals cases d
  exact punchEntry _ (h.sameTape ⟨rfl, rfl, rfl, rfl, rfl⟩)

theorem punchGoesOn {s : State} (h : ValuesOk s) : ValuesOk (punchGoesOn s) := by
  suffices run : ∀ n (u : State), ValuesOk u → ValuesOk (punchRun n u) from run _ s h
  intro n
  induction n with
  | zero => exact fun _ hu => hu
  | succ n ih =>
    intro u hu
    simp only [punchRun]
    split
    · exact hu
    · next taken =>
      split
      · exact hu.doPunchTake taken
      · next begun => exact ih _ ((hu.doPunchTake taken).beginPunchHeld begun)

/-! ## The setup commands (R42, R43, R124, R126, R150, R181) -/

/-- The accepted line values lie in their ranges, the clear threshold above the break threshold (R42, R43). -/
theorem lineAccepted_inRange (l : LineSetup) : l.accepted.inRange := by
  have u := clampNat_bounds (show 5000 ≤ 40000 by decide) l.unitLength
  have b := clampNat_bounds (show 8 ≤ 255 by decide) l.breakUnits
  have c := clampNat_bounds (show 200 ≤ 10000 by decide) l.clearMs
  have product : clampNat 8 255 l.breakUnits * clampNat 5000 40000 l.unitLength ≤ 255 * 40000 :=
    Nat.mul_le_mul b.2 u.2
  refine ⟨u, clampNat_bounds (by decide) _, clampNat_bounds (by decide) _, b, ?_, clampNat_bounds (by decide) _,
    clampNat_bounds (by decide) _, clampNat_bounds (by decide) _, clampNat_bounds (by decide) _,
    clampNat_bounds (by decide) _⟩
  simp only [LineSetup.accepted]
  omega

theorem printerAccepted_inRange (v : PrinterSetup) : v.accepted.inRange := by
  have w := clampNat_bounds (show 40 ≤ 80 by decide) v.width
  have m := clampNat_bounds (Nat.zero_le (clampNat 40 80 v.width)) v.margin
  exact ⟨w.1, w.2, m.2.trans w.2, (clampNat_bounds (by decide) _).2⟩

/-- A width that cannot be in force at once waits, the one in force stays (R127; log 12). -/
theorem putPrinterSetup {s : State} (h : ValuesOk s) {v : PrinterSetup} (range : v.inRange) :
    ValuesOk (putPrinterSetup v s) := by
  obtain ⟨low, high, margin, feeds⟩ := range
  have ⟨strikes, column, reached, waiting⟩ := h.printer
  have old := h.setup.printer
  unfold Machine.putPrinterSetup
  split
  · next fits =>
    exact ⟨h.bell, h.punch, ⟨strikes, column, fits, nofun⟩, h.sent, h.dropped, h.stats,
      ⟨h.setup.line, ⟨low, high, margin, feeds⟩, h.setup.keyboard, h.setup.leader, h.setup.trailer, h.setup.motor⟩⟩
  · exact ⟨h.bell, h.punch, ⟨strikes, column, reached, by rintro w eq; cases eq; exact ⟨low, high⟩⟩, h.sent, h.dropped,
      h.stats, ⟨h.setup.line, ⟨old.1, old.2.1, margin, feeds⟩, h.setup.keyboard, h.setup.leader, h.setup.trailer,
        h.setup.motor⟩⟩

theorem setSetup {s : State} (h : ValuesOk s) {v : Setup} (ok : SetupOk v) (printer : v.printer = s.setup.printer) :
    ValuesOk (s.setSetup v) :=
  ⟨h.bell, h.punch, show PrinterOk s.printer v.printer.width from printer ▸ h.printer, h.sent, h.dropped, h.stats, ok⟩

/-! ## Transitions of LINE_IN -/

theorem doMarkToSpace {time : Nat} {s t : State} (h : ValuesOk s) (d : doMarkToSpace time s = some t) : ValuesOk t := by
  simp only [Machine.doMarkToSpace] at d
  split at d <;> cases d
  have received : ValuesOk (spaceAtReceiver ((s.upTo time).setLineIn false)) := by
    simp only [spaceAtReceiver, startEdge, takeClaim, setRx]
    repeat' split
    all_goals exact h.congr rfl (.refl _) (.refl _) ⟨rfl, rfl⟩ rfl rfl
  have counted {u : State} (hu : ValuesOk u) : ValuesOk (beginRun u) := by
    unfold beginRun
    split
    · exact hu.congr rfl (.refl _) (.refl _) ⟨rfl, rfl⟩ rfl rfl
    · exact hu
  refine counted ?_
  unfold spaceAtController callNotConfirmed
  repeat' split
  · exact received.enterFree.raise _ _
  · exact received.same rfl rfl rfl rfl rfl rfl
  · exact received.enterFree
  · exact received

theorem doSpaceToMark {time : Nat} {s t : State} (h : ValuesOk s) (d : doSpaceToMark time s = some t) :
    ValuesOk t := by
  have stats : t.receiver.stats = s.receiver.stats := by
    simp only [Machine.doSpaceToMark] at d
    split at d <;> cases d
    simp only [markAtController, enterCallPending, stopCounter, markAtReceiver, setRx]
    split <;> split <;> rfl
  rw [doSpaceToMark_frame d] at stats ⊢
  exact h.congr rfl (.refl _) (.refl _) ⟨rfl, rfl⟩ stats rfl

theorem atSample {s t : State} {a : Assembly} (h : ValuesOk s) (d : atSample s = some (a, t)) : ValuesOk t :=
  atSample_keeps ValuesOk (fun _ _ _ h => h.doMarkToSpace) (fun _ _ _ h => h.doSpaceToMark) inert.ahead
    (fun s _ => inert.now s _) h d

/-! ## Every step -/

theorem completeCharacter (a : Assembly) {s : State} (h : ValuesOk s) : ValuesOk (completeCharacter a s) := by
  have echoed (q : Quality) {u : State} (hu : ValuesOk u) : ValuesOk (echoResult a.own q u) := by
    unfold echoResult
    repeat' split
    · exact hu.echoFailed
    · exact hu.congr rfl (.refl _) (.refl _) ⟨rfl, rfl⟩ rfl rfl
    · exact hu
  have looked (q : Quality) (p : Plane) {u : State} (hu : ValuesOk u) : ValuesOk (wruLookup a.own q p a.code u) := by
    unfold wruLookup
    split
    · exact hu.requestAnswerBack true
    · exact hu
  have written (e : Entry) (r : RxState) (p : Plane) :
      ValuesOk (writeTraffic e (s.setReceiver { s.receiver with state := r, linePlane := p })) :=
    h.congr (by simp) (by simp [SameTape]) (by simp [SameCarriage]) (by simp) (by simp) (by simp)
  exact loadIdle (countCharacter (looked _ _ (echoed _ (written _ _ _))) _ _ _)

theorem restartAll {s : State} (h : ValuesOk s) : ValuesOk (restartAll s) := by
  have setup : (Machine.restartAll s).setup = s.setup := by rw [restartAll_frame]
  have stats : (Machine.restartAll s).receiver.stats = .zero := by
    simp [Machine.restartAll, restartEvents, restartPunch, restartPrinter, restartKeyboard, restartReceiver,
      Receiver.powerOn]
  have transmitter : (Machine.restartAll s).transmitter.sent = 0 ∧ (Machine.restartAll s).transmitter.dropped = 0 := by
    simp only [Machine.restartAll, restartEvents, restartPunch, restartPrinter, restartKeyboard, restartReceiver,
      restartLine]
    split <;> simp [beginClearSpacing, Transmitter.powerOn]
  have carriage : (Machine.restartAll s).printer.strikes = 0 ∧ (Machine.restartAll s).printer.column = 1
      ∧ (Machine.restartAll s).printer.hammer = none ∧ (Machine.restartAll s).printer.carriage = .idle
      ∧ (Machine.restartAll s).printer.waitingWidth = none := by
    simp [Machine.restartAll, restartEvents, restartPunch, restartPrinter, Printer.powerOn]
  have tape : (Machine.restartAll s).punch.feeds = 0 ∧ (Machine.restartAll s).punch.runCount = 0
      ∧ (Machine.restartAll s).punch.eraseDepth = 0 ∧ (Machine.restartAll s).punch.punched = 0
      ∧ (Machine.restartAll s).punch.erases = 0 := by
    simp [Machine.restartAll, restartEvents, restartPunch, Punch.powerOn]
  have bell : (Machine.restartAll s).bell = .powerOn := by simp [Machine.restartAll, restartEvents]
  obtain ⟨sent, dropped⟩ := transmitter
  obtain ⟨strikes, column, hammer, still, waiting⟩ := carriage
  obtain ⟨feeds, run, depth, punched, erases⟩ := tape
  have wide := h.setup.printer.1
  refine ⟨by simp [bell, Bell.powerOn], ⟨by omega, by omega, by omega, by omega, by omega⟩,
    ⟨by omega, by omega, ?_, by simp [waiting]⟩, by omega, by omega, ?_, setup ▸ h.setup⟩
  · rw [columnReached_idle _ hammer still, column, setup]
    omega
  · rw [stats]
    exact ⟨Nat.zero_le _, Nat.zero_le _, Nat.zero_le _, Nat.zero_le _, Nat.zero_le _⟩

theorem records {k : Byte} {s t : State} (h : ValuesOk s) (e : Effect s k t) : ValuesOk t := by
  cases e with
  | none => exact h
  | lineSetup p =>
    simp only [doLineSetup]
    repeat' split
    all_goals first | exact h | skip
    all_goals exact h.setSetup ⟨lineAccepted_inRange _, h.setup.printer, h.setup.keyboard, h.setup.leader,
        h.setup.trailer,
      h.setup.motor⟩ rfl
  | printerSetup p =>
    simp only [doPrinterSetup]
    repeat' split
    all_goals first | exact h | skip
    exact h.putPrinterSetup (printerAccepted_inRange _)
  | keyboardSetup p =>
    simp only [doKeyboardSetup]
    split
    · exact h.setSetup ⟨h.setup.line, h.setup.printer,
        ⟨clampNat_bounds (by decide) _, clampNat_bounds (by decide) _, clampNat_bounds (by decide) _⟩, h.setup.leader,
        h.setup.trailer, h.setup.motor⟩ rfl
    · exact h
  | punchSetup p =>
    simp only [doPunchSetup]
    split
    · exact h.setSetup ⟨h.setup.line, h.setup.printer, h.setup.keyboard, (clampNat_bounds (by decide) _).2,
        (clampNat_bounds (by decide) _).2, h.setup.motor⟩ rfl
    · exact h
  | motorAndBellSetup p =>
    simp only [doMotorAndBellSetup]
    repeat' split
    all_goals first | exact h | skip
    have set (v : MotorSetup) (range : v.inRange) : ValuesOk (s.setSetup { s.setup with motor := v }) :=
      h.setSetup ⟨h.setup.line, h.setup.printer, h.setup.keyboard, h.setup.leader, h.setup.trailer, range⟩ rfl
    exact loadIdle (inert.sense _ _ (set _ ⟨clampNat_bounds (by decide) _, (clampNat_bounds (by decide) _).2,
      clampNat_bounds (by decide) _⟩))
  | setMode p =>
    simp only [doSetMode]
    split
    · split
      · exact h
      · refine changeSource (changeStation ?_ _) _
        exact h.same rfl rfl rfl rfl rfl rfl
    · exact h
  | answer =>
    simp only [doAnswer]
    split
    · exact h.enterCall _ _
    · exact h
  | clear =>
    simp only [doClear]
    split
    case h_1 => exact h
    case h_2 => exact h.enterFree.raise _ _
    case h_8 => exact h
    case h_3 => exact enterClearing (h.same rfl rfl rfl rfl rfl rfl)
    all_goals exact h.enterClearing
  | breakSend =>
    simp only [doBreak, lineReply, requestBreak]
    repeat' split
    all_goals first | exact h | exact h.setTransmitter h.sent h.dropped
  | hereIs =>
    simp only [doHereIs]
    split
    · exact h.requestAnswerBack false
    · exact h
  | haltSend => exact h.haltSending .host
  | resumeSend => exact h.setTransmitter h.sent h.dropped
  | printerStop => exact h.haltPrinter (fun h => { h with host := true })
  | printerResume => exact h.sameCarriage ⟨rfl, rfl, rfl, rfl, rfl⟩
  | punchStop => exact h.haltPunch (fun h => { h with host := true })
  | punchResume => exact h.sameTape ⟨rfl, rfl, rfl, rfl, rfl⟩
  | punchFeed n =>
    simp only [doPunchFeed]
    split
    · exact h
    · exact h.addFeeds _
  | motorRestart =>
    simp only [doMotorRestart, restartMotor]
    split
    · split
      · exact beginRunup (h.same rfl rfl rfl rfl rfl rfl)
      · exact h.same rfl rfl rfl rfl rfl rfl
    · exact h
  | moveReader c delta =>
    simp only [doMoveReader]
    repeat' split
    · exact h
    · exact h
    · refine h.congr ?_ ?_ ?_ ?_ ?_ ?_ <;> simp only [moveCursor] <;> repeat' split
      all_goals simp [markHeld, setUnread, SameTape, SameCarriage]
  | statistics =>
    obtain ⟨feeds, run, depth, _, _⟩ := h.punch
    obtain ⟨_, column, reached, waiting⟩ := h.printer
    exact ⟨h.bell, ⟨feeds, run, depth, Nat.zero_le _, Nat.zero_le _⟩, ⟨Nat.zero_le _, column, reached, waiting⟩,
      Nat.zero_le _, Nat.zero_le _, ⟨Nat.zero_le _, Nat.zero_le _, Nat.zero_le _, Nat.zero_le _, Nat.zero_le _⟩,
          h.setup⟩
  | restart => exact h.restartAll
  | originate => rw [doOriginate_frame]; exact h.same rfl rfl rfl rfl rfl rfl
  | ringLayout p => rw [doRingLayout_frame]; exact h.same rfl rfl rfl rfl rfl rfl
  | loadCodes p => rw [doLoadCodes_frame]; exact h.same rfl rfl rfl rfl rfl rfl
  | loadKeys p => rw [doLoadKeys_frame]; exact h.same rfl rfl rfl rfl rfl rfl
  | loadAnswerBack p => rw [doLoadAnswerBack_frame]; exact h.same rfl rfl rfl rfl rfl rfl
  | loadRefusalText p => rw [doLoadRefusalText_frame]; exact h.same rfl rfl rfl rfl rfl rfl
  | cancelSend => rw [doCancelSend_frame]; exact h.same rfl rfl rfl rfl rfl rfl
  | writeText p => rw [doWriteText_frame]; exact h.same rfl rfl rfl rfl rfl rfl
  | writeCodes p => rw [doWriteCodes_frame]; exact h.same rfl rfl rfl rfl rfl rfl
  | readTake c n => rw [doReadTake_frame]; exact h.same rfl rfl rfl rfl rfl rfl
  | attach c => rw [doAttach_frame]; exact h.same rfl rfl rfl rfl rfl rfl
  | detach c => rw [doDetach_frame]; exact h.same rfl rfl rfl rfl rfl rfl
  | eventSetup p => rw [doEventSetup_frame]; exact h.same rfl rfl rfl rfl rfl rfl
  | eventClear p => rw [doEventClear_frame]; exact h.same rfl rfl rfl rfl rfl rfl

theorem doReturnComplete {s t : State} (h : ValuesOk s) (d : doReturnComplete s = some t) : ValuesOk t := by
  have width {u : State} (hu : ValuesOk u) (column : u.printer.column = 1) : ValuesOk (putWaitingWidth u) := by
    have bounds := columnReached_bounds u.printer
    unfold putWaitingWidth
    split
    · exact hu
    · next w waits =>
      have ⟨low, high⟩ := hu.printer.waiting w waits
      have reached : columnReached u.printer ≤ w := by omega
      exact ⟨hu.bell, hu.punch, ⟨hu.printer.strikes, hu.printer.column, reached, nofun⟩, hu.sent, hu.dropped, hu.stats,
        ⟨hu.setup.line, ⟨low, high, hu.setup.printer.2.2⟩, hu.setup.keyboard, hu.setup.leader, hu.setup.trailer,
          hu.setup.motor⟩⟩
  have checked {u : State} (hu : ValuesOk u) : ValuesOk (carriageHomeCheck u) := by
    unfold carriageHomeCheck
    split
    · exact hu.sameCarriage ⟨rfl, rfl, rfl, rfl, rfl⟩
    · have unsure : ValuesOk (u.setPrinter { u.printer with unsure := true }) :=
        hu.sameCarriage ⟨rfl, rfl, rfl, rfl, rfl⟩
      exact (unsure.haltPrinter _).raise _ _
  simp only [Machine.doReturnComplete] at d
  split at d <;> cases d
  next ends _ =>
  have moved := inert.upTo ends h
  have wide := moved.setup.printer.1
  have reached := (columnReached_bounds { (s.upTo ends).printer with carriage := .idle, column := 1 }).2
  have home : ValuesOk ((s.upTo ends).setPrinter { (s.upTo ends).printer with carriage := .idle, column := 1 }) :=
    moved.setPrinter ⟨moved.printer.strikes, le_rfl, reached.trans (by simp only; omega), moved.printer.waiting⟩
  exact checked (width home rfl)

/-- The advance that follows a strike leads no further than the strike did (R130). -/
theorem doStrikeComplete {s t : State} (h : ValuesOk s) (d : doStrikeComplete s = some t) : ValuesOk t := by
  simp only [Machine.doStrikeComplete] at d
  split at d <;> cases d
  next k struck =>
  have reached := h.printer.reached
  simp only [columnReached, struck] at reached
  have rest : ValuesOk ((s.upTo k.ends).setPrinter { s.printer with hammer := none }) := by
    refine (inert.upTo k.ends h).setPrinter ⟨h.printer.strikes, h.printer.column, ?_, h.printer.waiting⟩
    show columnReached _ ≤ s.setup.printer.width
    simp only [columnReached]
    omega
  split
  · next goes =>
    have notAtWidth : k.atWidth = false := by simpa using (Bool.and_eq_true_iff.mp goes).2
    rw [notAtWidth] at reached
    simp only [Bool.false_eq_true, if_false] at reached
    refine rest.beginAdvance ?_ rfl
    show s.printer.column < s.setup.printer.width
    omega
  · exact rest

theorem doAdvanceComplete {s t : State} (h : ValuesOk s) (d : doAdvanceComplete s = some t) : ValuesOk t := by
  simp only [Machine.doAdvanceComplete] at d
  split at d <;> cases d
  next ends advancing =>
  have reached := h.printer.reached
  simp only [columnReached, advancing] at reached
  have stepped : ValuesOk ((s.upTo ends).setPrinter
      { s.printer with carriage := .idle, column := s.printer.column + 1 }) := by
    refine (inert.upTo ends h).setPrinter ⟨h.printer.strikes, Nat.le_add_left _ _, ?_, h.printer.waiting⟩
    show columnReached _ ≤ s.setup.printer.width
    simp only [columnReached]
    omega
  split
  · exact stepped.ringBell 1
  · exact stepped

theorem doPunchStep {s t : State} (h : ValuesOk s) (d : doPunchStep s = some t) : ValuesOk t := by
  simp only [Machine.doPunchStep] at d
  split at d
  · next ends _ _ =>
    have moved := inert.upTo ends h
    split at d
    · cases d
      refine addFeeds (moved.sameTape ?_) _
      exact ⟨rfl, rfl, rfl, rfl, rfl⟩
    · split at d <;> cases d
      · exact moved.beginWork _
      · exact moved.sameTape ⟨rfl, rfl, rfl, rfl, rfl⟩
  · cases d

theorem doCharacterBegin {s t : State} (h : ValuesOk s) (d : doCharacterBegin s = some t) : ValuesOk t := by
  have keyed (c : Code) {u : State} (hu : ValuesOk u) : ValuesOk (keyCode c u) := hu.setTransmitter hu.sent hu.dropped
  simp only [Machine.doCharacterBegin, beginFromSend] at d
  repeat' split at d
  all_goals cases d
  · exact h.setTransmitter h.sent h.dropped
  · exact h.setTransmitter h.sent h.dropped
  · exact h.setTransmitter h.sent h.dropped
  · exact keyed _ h
  · next taken =>
    refine keyed _ ?_
    have followed (e : Entry) {u : State} (hu : ValuesOk u) : ValuesOk (followStream e u) := by
      unfold followStream
      split
      · exact hu.setTransmitter hu.sent hu.dropped
      · exact hu
    unfold sendEmptyCheck
    split
    · exact (followed _ (h.takeEntry taken)).raise _ _
    · exact followed _ (h.takeEntry taken)

theorem doCharacterEnd {s t : State} (h : ValuesOk s) (d : doCharacterEnd s = some t) : ValuesOk t := by
  have without (q : Sequencer) {u : State} (hu : ValuesOk u) : ValuesOk (setSequencer q u) :=
    hu.setTransmitter hu.sent hu.dropped
  simp only [Machine.doCharacterEnd] at d
  split at d <;> cases d
  next start _ keying _ =>
  have moved := inert.upTo (keying.characterEnd start) h
  have counted := loadIdle (moved.setTransmitter
    (v := { (s.upTo (keying.characterEnd start)).transmitter with
      state := .idle, sent := bump (s.upTo (keying.characterEnd start)).transmitter.sent })
    (bump_le _) moved.dropped)
  split
  · exact (without .empty counted).congr rfl (.refl _) (.refl _) ⟨rfl, rfl⟩ rfl rfl
  · unfold sequenceDone
    split
    · split
      · exact (without .empty counted).raise _ _
      · exact without .empty counted
    · exact (without .empty counted).enterClearing
    · exact counted

/-! ## The sense inputs (R144, R145, R161 to R163, R170, R171) -/

theorem debounceTo (k : Fin 6) (v : Bool) {s : State} (h : ValuesOk s) : ValuesOk (debounceTo k v s) := by
  have told : ValuesOk (raiseSenseChange (setInput k { s.sense[k] with debounced := v } s)) := by
    rw [raiseSenseChange_eq]
    exact inert.events _ _ (inert.sense _ _ h)
  simp only [Machine.debounceTo]
  split
  · unfold senseAsserted
    repeat' split
    · unfold paperOutSet
      refine divertPunch ?_
      split
      · exact ringBell (raise (haltPrinter told _) _ _) 3
      · exact raise (haltPrinter told _) _ _
    · exact told.raise _ _
    · unfold tapeOutSet
      exact raise (forgetRun (haltPunch told _)) _ _
    · unfold motorReadySet
      split
      · exact told.enterRunning
      · exact told
    · unfold coverOpenSet
      exact haltPunch (haltPrinter told _) _
    · exact told
  · unfold senseReleased
    repeat' split
    · exact told.sameCarriage ⟨rfl, rfl, rfl, rfl, rfl⟩
    · exact told.sameTape ⟨rfl, rfl, rfl, rfl, rfl⟩
    · unfold motorReadyLost
      split
      · exact told.enterFault
      · exact told
    · exact told.congr rfl ⟨rfl, rfl, rfl, rfl, rfl⟩ ⟨rfl, rfl, rfl, rfl, rfl⟩ ⟨rfl, rfl⟩ rfl rfl
    · exact told

/-! ## The part's own steps -/

theorem own {i : Instr} {f : State → Option State} {s t : State} (row : ownDo i = some f) (h : ValuesOk s)
    (d : f s = some t) : ValuesOk t := by
  cases i <;> cases row
  case interByteGapExpiry => exact inert.doGapExpiry h d
  case recordOverrun => exact inert.doOverrun h d
  case outgoingRecordEnd => exact inert.doRecordEnd h d
  case sensePinChange => exact inert.doSensePin h d
  case senseDebouncedChange k =>
    simp only [doDebounced] at d
    split at d <;> cases d
    exact (inert.upTo _ h).debounceTo k _
  case unitSample =>
    simp only [doUnitSample] at d
    split at d
    · cases d
    · next sampled =>
      have found := h.atSample sampled
      repeat' split at d
      all_goals cases d
      all_goals exact found.setReceiver found.stats
  case falseStart =>
    simp only [doFalseStart] at d
    split at d
    · cases d
    · next u sampled =>
      have found := h.atSample sampled
      have counted : ValuesOk (u.setReceiver
          { u.receiver with
            state := .hunting
            stats := { u.receiver.stats with falseStart := bump u.receiver.stats.falseStart } }) :=
        found.setReceiver ⟨found.stats.good, found.stats.stopError, found.stats.collided, bump_le _,
            found.stats.warning⟩
      repeat' split at d
      all_goals cases d
      · exact counted.echoFailed
      · exact counted
  case characterCompletion =>
    simp only [doCharacterCompletion] at d
    split at d
    · cases d
    · next sampled =>
      split at d <;> cases d
      exact completeCharacter _ (h.atSample sampled)
  case claimWithdrawn =>
    simp only [doClaimWithdrawn] at d
    split at d <;> cases d
    exact (inert.upTo _ h).echoFailed
  case breakThresholdReached =>
    simp only [doBreakThreshold] at d
    have passed (v : Nat) (run : Option SpacingRun) :
        ValuesOk ((s.upTo v).setReceiver { (s.upTo v).receiver with run := run }) :=
      (inert.upTo _ h).setReceiver h.stats
    repeat' split at d
    all_goals cases d
    · exact haltSending ((passed _ _).raise _ _) _
    · exact (passed _ _).raise _ _
    · exact passed _ _
  case clearThresholdReached =>
    simp only [doClearThreshold] at d
    repeat' split at d
    all_goals cases d
    have passed (v : Nat) (run : Option SpacingRun) :
        ValuesOk ((s.upTo v).setReceiver { (s.upTo v).receiver with run := run }) :=
      (inert.upTo _ h).setReceiver h.stats
    unfold clearReport
    split
    case h_5 => exact passed _ _
    all_goals exact (passed _ _).enterFree.raise _ _
  case callConfirmed =>
    simp only [doCallConfirmed] at d
    repeat' split at d
    all_goals cases d
    have apart {u v : State} (hu : ValuesOk u) (c : Controller) (e : v = u.setController c) : ValuesOk v := by
      rw [e]
      exact hu.same rfl rfl rfl rfl rfl rfl
    have moved (t : Nat) (c : Controller) : ValuesOk ((s.upTo t).setController c) := apart (inert.upTo t h) c rfl
    simp only [confirmCall]
    split
    · exact enterCall (apart (moved _ _) _ rfl) _ _
    · split
      · exact enterCall ((moved _ _).raise _ _) _ _
      · exact apart ((moved _ _).raise _ _) _ rfl
  case originateTimeout =>
    simp only [doOriginateTimeout] at d
    repeat' split at d
    all_goals cases d
    · exact (inert.upTo _ h).enterFree.raise _ _
    · exact h.same rfl rfl rfl rfl rfl rfl
  case clearTimerExpiry =>
    simp only [doClearTimerExpiry] at d
    split at d <;> cases d
    next time _ =>
    have idle : ValuesOk ((s.upTo time).setTransmitter { (s.upTo time).transmitter with state := .idle }) :=
      (inert.upTo _ h).setTransmitter h.sent h.dropped
    exact idle.enterFree.raise _ _
  case characterBegin => exact h.doCharacterBegin d
  case characterEnd => exact h.doCharacterEnd d
  case breakBegin =>
    simp only [doBreakBegin] at d
    split at d <;> cases d
    exact h.congr rfl (.refl _) (.refl _) ⟨rfl, rfl⟩ rfl rfl
  case breakEnd =>
    simp only [doBreakEnd] at d
    split at d <;> cases d
    unfold beginRun
    repeat' split
    all_goals exact h.congr rfl (.refl _) (.refl _) ⟨rfl, rfl⟩ rfl rfl
  case motorRunupStart =>
    simp only [doRunupStart] at d
    split at d <;> cases d
    exact h.beginRunup
  case runupTimeout =>
    simp only [doRunupTimeout] at d
    repeat' split at d
    all_goals cases d
    exact (inert.upTo _ h).enterFault
  case idleCountdownExpiry =>
    simp only [doIdleExpiry] at d
    repeat' split at d
    all_goals cases d
    · exact h.congr rfl (.refl _) ⟨rfl, rfl, rfl, rfl, rfl⟩ ⟨rfl, rfl⟩ rfl rfl
    · exact (inert.upTo _ h).loadIdle
  case repeatTimerExpiry =>
    simp only [doRepeat] at d
    split at d <;> cases d
    next r _ =>
    have repeated (v : Keyboard) : ValuesOk ((s.upTo r.ends).setKeyboard v) := h.same rfl rfl rfl rfl rfl rfl
    exact strikeKey (repeated _) _
  case printTake => exact h.doPrintTake d
  case wheelTravelBegin =>
    simp only [doWheelTravel] at d
    repeat' split at d
    all_goals cases d
    refine loadIdle (h.sameCarriage ?_)
    exact ⟨rfl, rfl, rfl, rfl, rfl⟩
  case printActionBegin =>
    obtain ⟨u, begun, rfl⟩ := Option.map_eq_some_iff.mp d
    exact (h.beginHeld begun).printGoesOn
  case implicitNewlineBegin =>
    simp only [doImplicitNewline] at d
    repeat' split at d
    all_goals cases d
    exact sameCarriage (h.beginReturn.beginFeeds 1) ⟨rfl, rfl, rfl, rfl, rfl⟩
  case implicitReturnBegin =>
    simp only [doImplicitReturn] at d
    repeat' split at d
    all_goals cases d
    exact h.beginReturn
  case wheelStepEnd =>
    simp only [doWheelStep] at d
    split at d <;> cases d
    refine (inert.upTo _ h).sameCarriage ?_
    exact ⟨rfl, rfl, rfl, rfl, rfl⟩
  case strikeComplete => exact h.doStrikeComplete d
  case advanceComplete => exact h.doAdvanceComplete d
  case returnComplete => exact h.doReturnComplete d
  case lineFeedComplete =>
    simp only [doLineFeedComplete] at d
    split at d <;> cases d
    refine beginFeeds ((inert.upTo _ h).sameCarriage ?_) _
    exact ⟨rfl, rfl, rfl, rfl, rfl⟩
  case punchTake => exact h.doPunchTake d
  case blankCycleBegin =>
    simp only [doBlankCycle] at d
    split at d <;> cases d
    exact beginWork _ (h.setPunch ⟨(Nat.sub_le _ _).trans h.punch.feeds, Nat.zero_le _, Nat.zero_le _, h.punch.punched,
      h.punch.erases⟩)
  case punchActionBegin =>
    obtain ⟨u, begun, rfl⟩ := Option.map_eq_some_iff.mp d
    exact (h.beginPunchHeld begun).punchGoesOn
  case punchStepComplete => exact h.doPunchStep d
  case ringBegin =>
    simp only [doRingBegin] at d
    split at d <;> cases d
    exact h.startRing
  case ringEnd =>
    simp only [doRingEnd] at d
    split at d <;> cases d
    exact (inert.upTo _ h).setBell h.bell
  case gapEnd =>
    simp only [doGapEnd] at d
    split at d <;> cases d
    split
    · exact (inert.upTo _ h).startRing
    · exact (inert.upTo _ h).setBell h.bell

theorem setupPowerOn : SetupOk .powerOn :=
  ⟨by unfold LineSetup.inRange; decide, by unfold PrinterSetup.inRange; decide, by unfold KeyboardSetup.inRange; decide,
    by decide, by decide, by unfold MotorSetup.inRange; decide⟩

theorem powerOn (rate : Bool) (s : State) : ValuesOk (powerOn rate s) := by
  unfold Machine.powerOn
  rw [raiseSenseChange_eq]
  refine inert.events _ _ ⟨Nat.zero_le _, ⟨Nat.zero_le _, Nat.zero_le _, Nat.zero_le _, Nat.zero_le _, Nat.zero_le _⟩,
    ⟨Nat.zero_le _, le_rfl, ?_, nofun⟩, Nat.zero_le _, Nat.zero_le _,
    ⟨Nat.zero_le _, Nat.zero_le _, Nat.zero_le _, Nat.zero_le _, Nat.zero_le _⟩, ?_⟩
  · show 1 ≤ Setup.powerOn.printer.width
    decide
  · exact setupPowerOn

theorem step_keeps {s t : State} (h : ValuesOk s) (d : step s = .next t) : ValuesOk t :=
  inert.step_keeps (fun rate s _ => powerOn rate s) (fun _ _ _ => records) (fun _ _ _ h d => h.doMarkToSpace d)
    (fun _ _ _ h d => h.doSpaceToMark d) (fun k closed _ h => h.readKeyNow k closed)
    (fun _ _ _ _ row h d => own row h d) h d

end ValuesOk

/-- Settles O59. -/
theorem valuesStayInRange : Obligations.ValuesStayInRange := by
  unfold Obligations.ValuesStayInRange
  intro s t before next
  obtain ⟨values, lost⟩ := (values_iff s).mp before
  exact (values_iff t).mpr ⟨values.step_keeps next, LostOk.storeClosed.step_keeps lost next⟩

end Sys2Proof.Machine
end

section
/-! The setup commands of the printer, the keyboard, the punch, the motor and the bell (R124, R126, R127, R150, R181),
and the claims O14, O15 and O16. -/

namespace Sys2Proof.Machine

/-- The status of a setup command, from what it means that no value was replaced. -/
theorem setupStatus_of_iff {α : Type} [DecidableEq α] {accepted given : α} {same : Prop} [Decidable same]
    (h : accepted = given ↔ same) : setupStatus (accepted != given) = if same then 0 else 1 :=
  (setupStatus_bne _ _).trans (if_congr h rfl rfl)

/-! ## KEYBOARD SETUP and PUNCH SETUP (R124, R150) -/

theorem KeyboardSetup.accepted_eq (v : KeyboardSetup) :
    v.accepted =
      { debounce := nearest 1 8 v.debounce, delayMs := nearest 100 2000 v.delayMs,
        periodMs := nearest 50 500 v.periodMs } := by
  simp only [KeyboardSetup.accepted, clampNat_eq_nearest, Nat.reduceLeDiff]

theorem PunchSetup.accepted_eq (v : PunchSetup) :
    v.accepted = { leader := nearest 0 31 v.leader, trailer := nearest 0 31 v.trailer } := by
  simp only [PunchSetup.accepted, clampNat_eq_nearest, Nat.zero_le]

/-- Settles O15: the accepted values are `KeyboardSetup.accepted_eq` and `PunchSetup.accepted_eq`. -/
theorem keyboardAndPunchSetup : Obligations.KeyboardAndPunchSetup := by
  unfold Obligations.KeyboardAndPunchSetup
  intro s d l1 l0 p1 p0 l t taken k q
  constructor
  · let given : KeyboardSetup := { debounce := d.toNat, delayMs := num2 l1 l0, periodMs := num2 p1 p0 }
    have accepted : given.accepted = k := given.accepted_eq
    have status := setupStatus_of_iff (accepted := k) (given := given)
      (same := k.debounce = d.toNat ∧ k.delayMs = num2 l1 l0 ∧ k.periodMs = num2 p1 p0)
      (by simp [k, given])
    refine answers_of_act (n := 5) (act := doKeyboardSetup [d, l1, l0, p1, p0]) rfl taken (by decide) ?_ rfl
    rw [← status, ← accepted]
    rfl
  · let given : PunchSetup := { leader := l.toNat, trailer := t.toNat }
    have accepted : given.accepted = q := given.accepted_eq
    have status := setupStatus_of_iff (accepted := q) (given := given)
      (same := q.leader = l.toNat ∧ q.trailer = t.toNat) (by simp [q, given])
    refine answers_of_act (n := 2) (act := doPunchSetup [l, t]) rfl taken (by decide) ?_ rfl
    rw [← status, ← accepted]
    rfl

/-! ## PRINTER SETUP (R126, R127) -/

theorem PrinterSetup.accepted_eq (v : PrinterSetup) :
    v.accepted =
      { width := nearest 40 80 v.width, margin := nearest 0 (nearest 40 80 v.width) v.margin,
        autoNewline := v.autoNewline, endFeeds := nearest 0 15 v.endFeeds } := by
  simp only [PrinterSetup.accepted, clampNat_eq_nearest, Nat.zero_le, Nat.reduceLeDiff]

theorem PrinterSetup.accepted_eq_self_iff (v : PrinterSetup) :
    v.accepted = v ↔
      v.accepted.width = v.width ∧ v.accepted.margin = v.margin ∧ v.accepted.endFeeds = v.endFeeds := by
  cases v
  simp [PrinterSetup.accepted]

/-- The action of the command on flag bytes in range. -/
theorem doPrinterSetup_accepts (w m auto feeds : Byte) (s : State) (flag : auto.toNat ≤ 1) :
    let given : PrinterSetup :=
      { width := w.toNat, margin := m.toNat, autoNewline := auto == 1, endFeeds := feeds.toNat }
    doPrinterSetup [w, m, auto, feeds] s =
      (replyTo 0x11 (setupStatus (given.accepted != given)) given.accepted.fields, putPrinterSetup given.accepted s) :=
  if_neg (by omega)

/-- Settles O14: the flag check, then the width in force at once or waiting, by the column that the operations in
flight lead to. -/
theorem printerSetupCommand : Obligations.PrinterSetupCommand := by
  unfold Obligations.PrinterSetupCommand
  intro s w m auto feeds taken cmd width v reached same reply
  let given : PrinterSetup :=
    { width := w.toNat, margin := m.toNat, autoNewline := auto == 1, endFeeds := feeds.toNat }
  have run : exec cmd s = finish (hostRecord 4 (doPrinterSetup [w, m, auto, feeds]) s) := rfl
  have accepted : given.accepted = v := given.accepted_eq
  have reach : columnReached s.printer = reached := by
    simp only [columnReached, reached]
    cases s.printer.hammer with
    | none => rfl
    | some k =>
      obtain ⟨ends, wide⟩ := k
      cases wide <;> rfl
  have fields (flag : auto.toNat ≤ 1) :
      replyTo 0x11 (setupStatus (given.accepted != given)) given.accepted.fields = .record 0x91 reply := by
    have unchanged : given.accepted = given ↔ same := by
      rw [given.accepted_eq_self_iff, accepted]
    have status := setupStatus_of_iff unchanged
    have back : flagByte given.accepted.autoNewline = auto := flagByte_beq_one flag
    rw [status, PrinterSetup.fields, back, accepted]
    rfl
  refine ⟨fun bad => ?_, fun flag fits => ?_, fun flag exceeds => ?_⟩
  · exact refuses_of_act run taken (by decide) (if_pos bad)
  · refine answers_of_act run taken (by decide) ?_ rfl
    rw [doPrinterSetup_accepts _ _ _ _ _ flag]
    refine Prod.ext (fields flag) ?_
    show putPrinterSetup given.accepted (emptyBuffer s) = _
    rw [accepted]
    exact if_pos (reach ▸ fits)
  · refine answers_of_act run taken (by decide) ?_ rfl
    rw [doPrinterSetup_accepts _ _ _ _ _ flag]
    refine Prod.ext (fields flag) ?_
    show putPrinterSetup given.accepted (emptyBuffer s) = _
    rw [accepted]
    exact if_neg (reach ▸ Nat.not_le.mpr exceeds)

/-! ## MOTOR AND BELL SETUP (R175, R181) -/

theorem MotorSetup.accepted_eq (v : MotorSetup) :
    v.accepted =
      { runupMs := nearest 200 5000 v.runupMs, idleS := nearest 0 600 v.idleS, tone := nearest 400 2000 v.tone } := by
  simp only [MotorSetup.accepted, clampNat_eq_nearest, Nat.zero_le, Nat.reduceLeDiff]

/-- An input under a polarity: none changed, or turned over from now (R175). -/
theorem withPolarity_eq (i : SenseInput) (low : Bool) (now : Nat) :
    i.withPolarity low now =
      if i.assertedLow = low then i else { i with assertedLow := !i.assertedLow, since := now } := by
  unfold SenseInput.withPolarity
  split
  · rfl
  · next differs =>
    have turned : low = !i.assertedLow := by cases h : i.assertedLow <;> cases low <;> simp_all
    rw [turned]

/-- A load of the idle countdown, in the terms of the claims (R173). -/
theorem loadIdle_loaded (s : State) : loadIdle s = { s with motor := idleLoaded s } := by
  unfold loadIdle idleLoaded motorRunning
  cases s.motor.state <;> rfl

theorem idleLoaded_eq (s : State) :
    idleLoaded s =
      { s.motor with
        idleEnds :=
          if s.motor.state = .running then
            (if s.setup.motor.idleS = 0 then none else some (s.now + s.setup.motor.idleS * 1000000))
          else s.motor.idleEnds } := by
  unfold idleLoaded
  split <;> rfl

/-- The inputs under the six polarity bytes. -/
def polarized (low : Vector Byte 6) (s : State) : Vector SenseInput 6 :=
  Vector.zipWith (fun i b => i.withPolarity (b == 1) s.now) s.sense low

theorem polarized_getElem (low : Vector Byte 6) (s : State) (k : Fin 6) :
    (polarized low s)[k] =
      if s.sense[k].assertedLow = (low[k] == 1) then s.sense[k]
      else { s.sense[k] with assertedLow := !s.sense[k].assertedLow, since := s.now } := by
  rw [← withPolarity_eq]
  simp [polarized]

/-- The reply gives the polarity bytes back as they were sent. -/
theorem polarized_flags {low : Vector Byte 6} (s : State) (h : ∀ k : Fin 6, low[k].toNat ≤ 1) :
    (polarized low s).toList.map (fun i => flagByte i.assertedLow) = low.toList := by
  refine List.ext_getElem (by simp) fun n _ _ => ?_
  have lt : n < 6 := by simp_all
  have flag := h ⟨n, lt⟩
  have back := flagByte_beq_one flag
  have set := polarized_getElem low s ⟨n, lt⟩
  simp only [Fin.getElem_fin] at back set flag
  simp only [List.getElem_map, Vector.getElem_toList, set]
  split
  · next same => rw [same, back]
  · next differs =>
    have turned : (!s.sense[n].assertedLow) = (low[n] == 1) := by
      cases h : s.sense[n].assertedLow <;> cases h' : low[n] == 1 <;> simp_all
    rw [turned, back]

/-- The action of the command on polarity bytes in range. -/
theorem doMotorAndBellSetup_accepts {r1 r0 i1 i0 t1 t0 p0 p1 p2 p3 p4 p5 : Byte} (s : State)
    (h : ∀ k : Fin 6, #v[p0, p1, p2, p3, p4, p5][k].toNat ≤ 1) :
    let given : MotorSetup := { runupMs := num2 r1 r0, idleS := num2 i1 i0, tone := num2 t1 t0 }
    let set :=
      loadIdle
        ((s.setSetup { s.setup with motor := given.accepted }).setSense (polarized #v[p0, p1, p2, p3, p4, p5] s))
    doMotorAndBellSetup [r1, r0, i1, i0, t1, t0, p0, p1, p2, p3, p4, p5] s =
      (replyTo 0x14 (setupStatus (given.accepted != given)) (motorFields set), set) := by
  refine if_neg ?_
  have all : ∀ b ∈ #v[p0, p1, p2, p3, p4, p5].toList, b.toNat ≤ 1 := by
    intro b mem
    obtain ⟨n, lt, rfl⟩ := List.getElem_of_mem mem
    exact h ⟨n, by simpa using lt⟩
  simpa using all

/-- Settles O16: the flag check, then the values, the polarities and the idle countdown. -/
theorem motorAndBellSetup : Obligations.MotorAndBellSetup := by
  unfold Obligations.MotorAndBellSetup
  intro s r1 r0 i1 i0 t1 t0 p0 p1 p2 p3 p4 p5 taken cmd v low same
  let given : MotorSetup := { runupMs := num2 r1 r0, idleS := num2 i1 i0, tone := num2 t1 t0 }
  let bytes : List Byte := [r1, r0, i1, i0, t1, t0, p0, p1, p2, p3, p4, p5]
  have run : exec cmd s = finish (hostRecord 12 (doMotorAndBellSetup bytes) s) := rfl
  have accepted : given.accepted = v := given.accepted_eq
  constructor
  · rintro ⟨k, bad⟩
    refine refuses_of_act run taken (by decide) (if_pos ?_)
    have mem : low[k] ∈ low.toList := by simp
    exact List.any_eq_true.mpr ⟨low[k], mem, by simpa using bad⟩
  · intro flags
    let set (u : State) : State :=
      loadIdle ((u.setSetup { u.setup with motor := given.accepted }).setSense (polarized low u))
    have status : setupStatus (given.accepted != given) = if same then 0 else 1 :=
      setupStatus_of_iff (by rw [accepted]; simp [v, given, same])
    have fields (u : State) : motorFields (set u) = be2 v.runupMs ++ be2 v.idleS ++ be2 v.tone ++ low.toList := by
      rw [← polarized_flags u flags, ← accepted]
      simp only [set, loadIdle_loaded]
      rfl
    refine ⟨set s, answers_of_act run taken (by decide) ?_ ?_, ?_, ?_, ?_, fun k => ?_⟩
    · rw [doMotorAndBellSetup_accepts _ flags, ← status]
      refine Prod.ext (congrArg (replyTo 0x14 _) (fields (emptyBuffer s))) ?_
      show set (emptyBuffer s) = _
      simp only [set, loadIdle_loaded]
      rfl
    · simp only [set, loadIdle_loaded]
      rfl
    · simp only [set, loadIdle_loaded]
      rfl
    · simp only [set, loadIdle_loaded, accepted]
      rfl
    · simp only [set, loadIdle_loaded, accepted, idleLoaded_eq]
      rfl
    · rw [← polarized_getElem]
      simp only [set, loadIdle_loaded]
      rfl

end Sys2Proof.Machine
end

section
/-! The loads of the code table, the key table and the two records (R28, R40, R94, R114 to R116), and the claims O18,
O19 and O20. -/

namespace Sys2Proof.Machine

/-! ## Entries written at an index and the indexes after it -/

/-- Values written at index n and the indexes after it; `writeCodeEntries_eq` and `writeKeyEntries_eq` tie it to the
model. -/
def writtenFrom {α : Type} (n : Nat) : List α → Vector α 64 → Vector α 64
  | [], t => t
  | x :: xs, t => writtenFrom (n + 1) xs (t.setIfInBounds n x)

theorem writeCodeEntries_eq (n : Nat) (es : List (Byte × Byte × Byte)) (t : Vector CodeEntry 64) :
    writeCodeEntries n es t = writtenFrom n (es.map codeEntryOf) t := by
  induction es generalizing n t with
  | nil => rfl
  | cons e es ih => exact ih _ _

theorem writeKeyEntries_eq (n : Nat) (es : List (Byte × Byte)) (t : Vector KeyEntry 64) :
    writeKeyEntries n es t = writtenFrom n (es.map keyEntryOf) t := by
  induction es generalizing n t with
  | nil => rfl
  | cons e es ih => exact ih _ _

/-- Each index holds the value written at it, or what it held. -/
theorem writtenFrom_getElem {α : Type} (n : Nat) (xs : List α) (t : Vector α 64) (i : Fin 64) :
    (writtenFrom n xs t)[i] = if n ≤ i.val then (xs[i.val - n]?).getD t[i] else t[i] := by
  induction xs generalizing n t with
  | nil => simp [writtenFrom]
  | cons x xs ih =>
    rw [writtenFrom, ih]
    rcases Nat.lt_trichotomy i.val n with below | here | above
    · rw [if_neg (by omega), if_neg (by omega)]
      simp [Nat.ne_of_gt below]
    · subst here
      rw [if_neg (by omega), if_pos le_rfl]
      simp
    · rw [if_pos (by omega), if_pos (by omega)]
      obtain ⟨d, hd⟩ : ∃ d, i.val - n = d + 1 := ⟨i.val - n - 1, by omega⟩
      have rest : i.val - (n + 1) = d := by omega
      simp [hd, rest, Nat.ne_of_lt above]

/-! ## LOAD CODES (R28) -/

theorem triples_flatMap (es : List (Byte × Byte × Byte)) :
    triples (es.flatMap fun e => [e.1, e.2.1, e.2.2]) = some es := by
  induction es with
  | nil => rfl
  | cons e es ih =>
    simp only [List.flatMap_cons, List.cons_append, List.nil_append, triples, ih]
    rfl

/-- The function of a value of the table (R27). -/
theorem codeFnOf_getElem {n : Nat} (h : n ≤ 8) :
    [CodeFn.null, .printing, .space, .cr, .lf, .ltrs, .figs, .bell, .wru][n]? = some (codeFnOf n) := by
  interval_cases n <;> rfl

/-- What LOAD CODES refuses. -/
def badCodes (start : Byte) (es : List (Byte × Byte × Byte)) : Prop :=
  63 < start.toNat ∨ 20 < es.length ∨ 64 < start.toNat + es.length ∨ ∃ e ∈ es, 8 < e.1.toNat ∨ 63 < e.2.1.toNat

theorem doLoadCodes_eq (start : Byte) (es : List (Byte × Byte × Byte)) (s : State) [Decidable (badCodes start es)] :
    doLoadCodes (start :: es.flatMap fun e => [e.1, e.2.1, e.2.2]) s =
      if badCodes start es then refuse 0x20 statusRange s
      else
        (replyTo 0x20 statusOk [],
          s.setTables { s.tables with codes := writeCodeEntries start.toNat es s.tables.codes }) := by
  simp only [doLoadCodes, triples_flatMap]
  refine if_congr ?_ rfl rfl
  simp [badCodes]

/-- Settles O18: the whole check, and each entry by `writtenFrom_getElem`. -/
theorem loadCodes : Obligations.LoadCodes := by
  classical
  unfold Obligations.LoadCodes
  intro s start es taken short cmd fns bad
  have length : (start :: es.flatMap fun e => [e.1, e.2.1, e.2.2]).length ≤ 64 := by
    simp only [List.length_cons, List.length_flatMap, List.length_nil, List.map_const', List.sum_replicate, smul_eq_mul]
    omega
  have run : exec cmd s = finish (hostRecord _ (doLoadCodes _) s) := rfl
  refine ⟨fun isBad => ?_, fun notBad => ?_⟩
  · exact refuses_of_act run taken length (by rw [doLoadCodes_eq]; exact if_pos isBad)
  · refine ⟨s.setTables { s.tables with codes := writeCodeEntries start.toNat es s.tables.codes },
      answers_of_act run taken length (by rw [doLoadCodes_eq]; exact if_neg notBad) rfl, rfl, fun i => ?_⟩
    have written := writtenFrom_getElem start.toNat (es.map codeEntryOf) s.tables.codes i
    rw [← writeCodeEntries_eq] at written
    simp only [State.setTables_tables, written, List.getElem?_map]
    split
    · next e found =>
      split at found
      · next within =>
        have mem : e ∈ es := List.mem_of_getElem? found
        have fine : ¬ (8 < e.1.toNat ∨ 63 < e.2.1.toNat) := fun high => notBad (.inr (.inr (.inr ⟨e, mem, high⟩)))
        rw [if_pos within, found]
        exact ⟨codeFnOf_getElem (by omega), Nat.mod_eq_of_lt (by omega), rfl⟩
      · cases found
    · next none =>
      split at none
      · next within => rw [if_pos within, none]; rfl
      · next without => exact if_neg without

/-! ## The repeat condition looked at afresh (R115, R116) -/

/-- The repeat timing after the condition has been looked at; `updateRepeat_eq` ties it to the model. -/
def repeatingNow (s : State) : Option Repeating :=
  (repeatKeyNow s).bind fun k =>
    if s.keyboard.repeating.map Repeating.key = some k then s.keyboard.repeating
    else some { key := k, ends := s.now + s.setup.keyboard.delayMs * 1000 }

theorem updateRepeat_eq (s : State) :
    updateRepeat s = s.setKeyboard { s.keyboard with repeating := repeatingNow s } := by
  unfold updateRepeat repeatingNow
  cases repeatKeyNow s with
  | none => rfl
  | some k =>
    cases h : s.keyboard.repeating with
    | none => rfl
    | some r =>
      by_cases same : r.key = k
      · have kept : { s.keyboard with repeating := some r } = s.keyboard := by rw [← h]
        simp [same, kept]
        rfl
      · simp [same]
        rfl

/-- The repeat condition looks at the keys and their table alone, the timing at the clock and the delay too. -/
theorem repeatingNow_setLink (v : Link) (s : State) : repeatingNow (s.setLink v) = repeatingNow s := by
  have condition : repeatKeyNow (s.setLink v) = repeatKeyNow s := by
    have same : repeatable (s.setLink v) = repeatable s := rfl
    simp only [repeatKeyNow, same, State.setLink_keyboard, State.setLink_tables]
  unfold repeatingNow
  rw [condition]
  rfl

theorem repeatKeyNow_updateRepeat (s : State) : repeatKeyNow (updateRepeat s) = repeatKeyNow s := by
  rw [updateRepeat_eq]
  rfl

/-- The same repeating key goes on as it was timed, a new one starts the delay, and none stops the timing. -/
theorem updateRepeat_repeating (s : State) :
    (repeatKeyNow (updateRepeat s) = none → (updateRepeat s).keyboard.repeating = none)
    ∧ ∀ k, repeatKeyNow (updateRepeat s) = some k →
        (updateRepeat s).keyboard.repeating =
          if s.keyboard.repeating.map Repeating.key = some k then s.keyboard.repeating
          else some { key := k, ends := s.now + s.setup.keyboard.delayMs * 1000 } := by
  rw [repeatKeyNow_updateRepeat]
  have set : (updateRepeat s).keyboard.repeating = repeatingNow s := by rw [updateRepeat_eq]; rfl
  rw [set]
  refine ⟨fun h => ?_, fun k h => ?_⟩ <;>
  · unfold repeatingNow
    rw [h]
    rfl

/-! ## LOAD KEYS (R40, R114) -/

theorem pairs_flatMap (es : List (Byte × Byte)) : pairs (es.flatMap fun e => [e.1, e.2]) = some es := by
  induction es with
  | nil => rfl
  | cons e es ih =>
    simp only [List.flatMap_cons, List.cons_append, List.nil_append, pairs, ih]
    rfl

/-- What LOAD KEYS refuses. -/
def badKeys (start : Byte) (es : List (Byte × Byte)) : Prop :=
  63 < start.toNat ∨ 64 < start.toNat + es.length
  ∨ ∃ e ∈ es, 7 < e.1.toNat ∨ (e.1 = 1 ∧ 95 < e.2.toNat) ∨ (e.1 ≠ 1 ∧ e.2 ≠ 0)

theorem keyEntryBad_iff (e : Byte × Byte) :
    keyEntryBad e = true ↔ 7 < e.1.toNat ∨ (e.1 = 1 ∧ 95 < e.2.toNat) ∨ (e.1 ≠ 1 ∧ e.2 ≠ 0) := by
  by_cases h : e.1 = 1#8 <;> simp [keyEntryBad, h]

/-- The machine with the new key table, before the repeat condition is looked at. -/
def keysPut (keys : Vector KeyEntry 64) (s : State) : State :=
  barReloaded s.tables.keys (keepFeeding (s.setTables { s.tables with keys := keys }))

theorem keysPut_feeding (keys : Vector KeyEntry 64) (s : State) (i : Fin 64) :
    (keysPut keys s).keyboard.feeding[i] = (s.keyboard.feeding[i] && keys[i] == .feed) := by
  show (Vector.zipWith (fun f e => f && e == KeyEntry.feed) s.keyboard.feeding keys)[i] = _
  simp

/-- The bar that a load leaves, by whether the entry is CODE now and was CODE, with the key held, before. -/
theorem bar_cases (code barred held before : Bool) :
    let bar := !code && (barred || (held && before))
    (code = true → bar = false)
    ∧ (¬ code = true → before = true ∧ held = true → bar = true)
    ∧ (¬ code = true → ¬ (before = true ∧ held = true) → bar = barred) := by
  revert code barred held before
  decide

theorem keysPut_barred (keys : Vector KeyEntry 64) (s : State) (i : Fin 64) :
    (keysPut keys s).keyboard.barred[i] =
      (!keys[i].isCode
        && (s.keyboard.barred[i] || (s.keyboard.states[i].pressed && s.tables.keys[i].isCode))) :=
  barReloaded_barred s.tables.keys (keepFeeding (s.setTables { s.tables with keys := keys })) i

theorem doLoadKeys_eq (start : Byte) (es : List (Byte × Byte)) (s : State) [Decidable (badKeys start es)] :
    doLoadKeys (start :: es.flatMap fun e => [e.1, e.2]) s =
      if badKeys start es then refuse 0x21 statusRange s
      else (replyTo 0x21 statusOk [], updateRepeat (keysPut (writeKeyEntries start.toNat es s.tables.keys) s)) := by
  simp only [doLoadKeys, pairs_flatMap]
  refine if_congr ?_ rfl rfl
  simp [badKeys, keyEntryBad_iff]

/-- The entry that two bytes in range spell (R40). -/
theorem keyEntryOf_spec {e : Byte × Byte}
    (h : ¬ (7 < e.1.toNat ∨ (e.1 = 1 ∧ 95 < e.2.toNat) ∨ (e.1 ≠ 1 ∧ e.2 ≠ 0))) :
    if e.1 = 1 then
      ∃ code plane, keyEntryOf e = .code code plane
        ∧ e.2.toNat = code.toNat +
            32 * (match plane with
              | some .letters => 0
              | some .figures => 1
              | none => 2)
    else some (keyEntryOf e) =
      [KeyEntry.unused, .unused, .hereIs, .repeatKey, .rubout, .breakKey, .feed, .mode][e.1.toNat]? := by
  obtain ⟨kind, value⟩ := e
  simp only [not_or, not_and, Nat.not_lt] at h ⊢
  obtain ⟨kindLow, valueLow, -⟩ := h
  split
  · next isCode =>
    have low := valueLow isCode
    refine ⟨BitVec.ofNat 5 value.toNat, keyPlaneOf (value.toNat / 32), by rw [isCode]; rfl, ?_⟩
    have planes : value.toNat / 32 = 0 ∨ value.toNat / 32 = 1 ∨ value.toNat / 32 = 2 := by omega
    simp only [BitVec.toNat_ofNat]
    obtain h | h | h := planes <;> simp only [keyPlaneOf, h] <;> simp <;> omega
  · next notCode =>
    have other : kind.toNat ≠ 1 := fun eq => notCode (BitVec.eq_of_toNat_eq eq)
    simp only [keyEntryOf]
    generalize kind.toNat = n at kindLow other
    interval_cases n
    · rfl
    · contradiction
    all_goals rfl

/-- Settles O19: the whole check, each entry by `writtenFrom_getElem`, and the keyboard by `keysPut` and
`updateRepeat_repeating`. -/
theorem loadKeys : Obligations.LoadKeys := by
  classical
  unfold Obligations.LoadKeys
  intro s start es taken short cmd others isCode bad
  have length : (start :: es.flatMap fun e => [e.1, e.2]).length ≤ 64 := by
    simp only [List.length_cons, List.length_flatMap, List.length_nil, List.map_const', List.sum_replicate, smul_eq_mul]
    omega
  have run : exec cmd s = finish (hostRecord _ (doLoadKeys _) s) := rfl
  refine ⟨fun isBad => ?_, fun notBad => ?_⟩
  · exact refuses_of_act run taken length (by rw [doLoadKeys_eq]; exact if_pos isBad)
  · let keys := writeKeyEntries start.toNat es s.tables.keys
    have eq := updateRepeat_eq (keysPut keys s)
    have ok : ¬ badKeys start es := notBad
    have acts : doLoadKeys (start :: es.flatMap fun e => [e.1, e.2]) (emptyBuffer s) =
        (.record 0xA1 [0], (updateRepeat (keysPut keys s)).setLink (emptyBuffer s).link) := by
      have moved : keysPut keys (emptyBuffer s) = (keysPut keys s).setLink (emptyBuffer s).link := rfl
      rw [doLoadKeys_eq, if_neg ok]
      refine Prod.ext rfl ?_
      show updateRepeat (keysPut keys (emptyBuffer s)) = _
      rw [moved, updateRepeat_eq, repeatingNow_setLink, eq]
      rfl
    have tables : (updateRepeat (keysPut keys s)).tables = { s.tables with keys := keys } := by rw [eq]; rfl
    have repeats := updateRepeat_repeating (keysPut keys s)
    refine ⟨updateRepeat (keysPut keys s), answers_of_act run taken length acts (by rw [eq]; rfl), ?_,
      fun i => ?_, fun i => ?_, fun i => ?_, repeats.1, repeats.2⟩
    · rw [eq]; rfl
    · have written := writtenFrom_getElem start.toNat (es.map keyEntryOf) s.tables.keys i
      rw [← writeKeyEntries_eq] at written
      simp only [tables, keys, written, List.getElem?_map]
      split
      · next e found =>
        split at found
        · next within =>
          have mem : e ∈ es := List.mem_of_getElem? found
          rw [if_pos within, found]
          exact keyEntryOf_spec fun high => notBad (.inr (.inr ⟨e, mem, high⟩))
        · cases found
      · next none =>
        split at none
        · next within => rw [if_pos within, none]; rfl
        · next without => exact if_neg without
    · rw [tables, eq]
      exact keysPut_feeding keys s i
    · have barred : (updateRepeat (keysPut keys s)).keyboard.barred = (keysPut keys s).keyboard.barred := by
        rw [eq]
        rfl
      rw [tables, barred, keysPut_barred]
      simp only [isCode, ← KeyEntry.isCode_iff]
      exact bar_cases _ _ _ _

/-! ## LOAD ANSWER-BACK and LOAD REFUSAL TEXT (R94) -/

theorem recordRefusal_eq (p : List Byte) (s : State) :
    recordRefusal p s =
      if 20 < p.length then some 5
      else if ∃ b ∈ p, 31 < b.toNat then some 7
      else if s.transmitter.sequencer ≠ .empty then some 3
      else none := by
  unfold recordRefusal
  simp only [List.any_eq_true, decide_eq_true_eq]

theorem codesOf_eq (p : List Byte) : codesOf p = p.map fun b => b.setWidth 5 := by
  unfold codesOf
  refine List.map_congr_left fun b _ => ?_
  exact BitVec.eq_of_toNat_eq (by simp)

/-- Settles O20: both commands make the one check `recordRefusal_eq`. -/
theorem loadRecords : Obligations.LoadRecords := by
  classical
  unfold Obligations.LoadRecords
  intro s p taken short codes high
  have refused {why : Byte} (h : recordRefusal p s = some why) :
      Refuses (.loadAnswerBack p) s 0xA2 why ∧ Refuses (.loadRefusalText p) s 0xA3 why := by
    have same : recordRefusal p (emptyBuffer s) = some why := h
    exact ⟨refuses_of_act (kind := 0x22) (act := doLoadAnswerBack p) rfl taken short (by simp [doLoadAnswerBack, same]),
      refuses_of_act (kind := 0x23) (act := doLoadRefusalText p) rfl taken short (by simp [doLoadRefusalText, same])⟩
  have check := recordRefusal_eq p s
  refine ⟨fun long => refused ?_, fun fits isHigh => refused ?_, fun fits low busy => refused ?_,
    fun fits low idle => ?_⟩
  · rw [check, if_pos long]
  · rw [check, if_neg (by omega), if_pos isHigh]
  · rw [check, if_neg (by omega), if_neg low, if_pos busy]
  · have passes : recordRefusal p (emptyBuffer s) = none := by
      show recordRefusal p s = none
      rw [check, if_neg (by omega), if_neg low, if_neg (not_not.mpr idle)]
    have same : codes = codesOf p := (codesOf_eq p).symm
    rw [same]
    exact ⟨answers_of_act (act := doLoadAnswerBack p) rfl taken short (by simp only [doLoadAnswerBack, passes]; rfl) rfl,
      answers_of_act (act := doLoadRefusalText p) rfl taken short (by simp only [doLoadRefusalText, passes]; rfl) rfl⟩

end Sys2Proof.Machine
end

section
/-! Malformed records (R188, R190): a payload of a length that its kind does not allow, and an action byte that names
no action. The claim O21. -/

namespace Sys2Proof.Machine

/-! ## Payloads of a wrong length -/

section Length
variable {p : List Byte} {s : State}

theorem doLineSetup_length (h : p.length ≠ 17) : doLineSetup p s = refuse 0x10 5 s := by
  unfold doLineSetup
  split
  · simp at h
  · rfl

theorem doPrinterSetup_length (h : p.length ≠ 4) : doPrinterSetup p s = refuse 0x11 5 s := by
  unfold doPrinterSetup
  split
  · simp at h
  · rfl

theorem doKeyboardSetup_length (h : p.length ≠ 5) : doKeyboardSetup p s = refuse 0x12 5 s := by
  unfold doKeyboardSetup
  split
  · simp at h
  · rfl

theorem doPunchSetup_length (h : p.length ≠ 2) : doPunchSetup p s = refuse 0x13 5 s := by
  unfold doPunchSetup
  split
  · simp at h
  · rfl

theorem doMotorAndBellSetup_length (h : p.length ≠ 12) : doMotorAndBellSetup p s = refuse 0x14 5 s := by
  unfold doMotorAndBellSetup
  split
  · simp at h
  · rfl

theorem doRingLayout_length (h : p.length ≠ 12) : doRingLayout p s = refuse 0x18 5 s := by
  unfold doRingLayout
  split
  · simp at h
  · rfl

theorem triples_length {es : List (Byte × Byte × Byte)} (h : triples p = some es) : p.length = 3 * es.length := by
  induction p using triples.induct generalizing es with
  | case1 =>
    cases h
    rfl
  | case2 a b c rest ih =>
    obtain ⟨es', found, rfl⟩ := Option.map_eq_some_iff.mp h
    have := ih found
    simp only [List.length_cons]
    omega
  | case3 p notNil notLong =>
    unfold triples at h
    split at h
    · exact absurd rfl notNil
    · exact absurd rfl (notLong _ _ _ _)
    · cases h

theorem pairs_length {es : List (Byte × Byte)} (h : pairs p = some es) : p.length = 2 * es.length := by
  induction p using pairs.induct generalizing es with
  | case1 =>
    cases h
    rfl
  | case2 a b rest ih =>
    obtain ⟨es', found, rfl⟩ := Option.map_eq_some_iff.mp h
    have := ih found
    simp only [List.length_cons]
    omega
  | case3 p notNil notLong =>
    unfold pairs at h
    split at h
    · exact absurd rfl notNil
    · exact absurd rfl (notLong _ _ _)
    · cases h

theorem doLoadCodes_length (h : p.length % 3 ≠ 1) : doLoadCodes p s = refuse 0x20 5 s := by
  unfold doLoadCodes
  split
  · rfl
  · split
    · rfl
    · next found =>
      have := triples_length found
      simp only [List.length_cons] at h
      omega

theorem doLoadKeys_length (h : p.length % 2 ≠ 1) : doLoadKeys p s = refuse 0x21 5 s := by
  unfold doLoadKeys
  split
  · rfl
  · split
    · rfl
    · next found =>
      have := pairs_length found
      simp only [List.length_cons] at h
      omega

theorem doSetMode_length (h : p.length ≠ 7) : doSetMode p s = refuse 0x30 5 s := by
  unfold doSetMode
  split
  · simp at h
  · rfl

theorem doWriteText_length (h : p.length = 0 ∨ 61 < p.length) : doWriteText p s = refuse 0x40 5 s := by
  unfold doWriteText
  split
  · rfl
  · next ring chars => exact if_pos (by simp only [List.length_cons] at h; omega)

theorem doWriteCodes_length (h : p.length = 0 ∨ 61 < p.length) : doWriteCodes p s = refuse 0x41 5 s := by
  unfold doWriteCodes
  split
  · rfl
  · next ring codes => exact if_pos (by simp only [List.length_cons] at h; omega)

theorem doEventSetup_length (h : p.length % 3 ≠ 0 ∨ 48 < p.length) : doEventSetup p s = refuse 0x60 5 s := by
  unfold doEventSetup
  split
  · rfl
  · next found =>
    have := triples_length found
    exact if_pos (by omega)

theorem doEventClear_length (h : 16 < p.length) : doEventClear p s = refuse 0x61 5 s := if_pos h

theorem doLineAction_length (h : p.length ≠ 1) : doLineAction p s = refuse 0x31 5 s := by
  unfold doLineAction
  split
  · simp at h
  · rfl

theorem doPrinterAction_length (h : p.length ≠ 1) : doPrinterAction p s = refuse 0x32 5 s := by
  unfold doPrinterAction
  split
  · simp at h
  · rfl

theorem doPunchActionRecord_length (h : p.length ≠ 2) : doPunchActionRecord p s = refuse 0x33 5 s := by
  unfold doPunchActionRecord
  split
  · simp at h
  · rfl

theorem doAttachRecord_length (h : p.length ≠ 2) : doAttachRecord p s = refuse 0x4A 5 s := by
  unfold doAttachRecord
  split
  · simp at h
  · rfl

theorem doReadEntries_length (h : p.length ≠ 5) : doReadEntries p s = refuse 0x48 5 s := by
  unfold doReadEntries
  split
  · simp at h
  · rfl

theorem doMove_length (h : p.length ≠ 3) : doMove p s = refuse 0x49 5 s := by
  unfold doMove
  split
  · simp at h
  · rfl

theorem doEmpty_length {kind : Byte} {act : State → Reply × State} (h : p ≠ []) :
    doEmpty kind act p s = refuse kind 5 s := by
  cases p with
  | nil => contradiction
  | cons => rfl

end Length

/-! ## Action bytes that name no action -/

section Action
variable {a : Byte} (b c d e : Byte) {s : State}

theorem doLineAction_range (h : 7 < a.toNat) : doLineAction [a] s = refuse 0x31 7 s := by
  simp only [doLineAction]
  split
  case h_9 => rfl
  all_goals omega

theorem doPrinterAction_range (h : 1 < a.toNat) : doPrinterAction [a] s = refuse 0x32 7 s := by
  simp only [doPrinterAction]
  split
  case h_3 => rfl
  all_goals omega

theorem doAttachRecord_range (h : 1 < a.toNat) : doAttachRecord [b, a] s = refuse 0x4A 7 s := by
  simp only [doAttachRecord]
  split
  case h_3 => rfl
  all_goals omega

theorem doReadEntries_range (h : 1 < a.toNat) : doReadEntries [b, a, c, d, e] s = refuse 0x48 7 s := by
  simp only [doReadEntries]
  split
  case h_3 => rfl
  all_goals omega

theorem doPunchActionRecord_range (h : 2 < a.toNat) : doPunchActionRecord [a, b] s = refuse 0x33 7 s := by
  simp only [doPunchActionRecord]
  split
  case h_4 => rfl
  all_goals omega

end Action

/-! ## The claim -/

/-- A record whose dispatch refuses it gets its status alone and changes nothing. -/
theorem record_refused {k status : Byte} {p : List Byte} {s : State} (taken : CommandTaken s) (short : p.length ≤ 64)
    (h : dispatch k p (emptyBuffer s) = refuse k status (emptyBuffer s)) :
    finish (hostRecord p.length (dispatch k p) s) = .next (s.setLink (linkAfter (k + 0x80) [status] s)) := by
  rw [finish_taken p.length (dispatch k p) s (emptyBuffer s) (k + 0x80) [status] taken short h rfl rfl]
  rfl

/-- Settles O21: each kind by its own check of the length, then of the action byte. -/
theorem malformedRecordRefused : Obligations.MalformedRecordRefused := by
  unfold Obligations.MalformedRecordRefused
  intro s p taken short refused
  refine ⟨fun h => ?_, fun h => ?_, fun h => ?_, fun h => ?_, fun h => ⟨?_, ?_⟩, fun h => ?_, fun h => ?_, fun h => ?_,
    fun h => ⟨?_, ?_⟩, fun h => ?_, fun h => ?_, fun h => ⟨?_, ?_⟩, fun h => ⟨?_, ?_⟩, fun h => ?_, fun h => ?_,
    fun h => ⟨?_, ?_, ?_, ?_⟩, fun a b c d e => ⟨fun h => ?_, fun h => ⟨?_, ?_, ?_⟩, fun h => ?_⟩⟩
  · exact refuses_of_act (kind := 0x10) rfl taken short (doLineSetup_length h)
  · exact refuses_of_act (kind := 0x11) rfl taken short (doPrinterSetup_length h)
  · exact refuses_of_act (kind := 0x12) rfl taken short (doKeyboardSetup_length h)
  · exact refuses_of_act (kind := 0x13) rfl taken short (doPunchSetup_length h)
  · exact refuses_of_act (kind := 0x14) rfl taken short (doMotorAndBellSetup_length h)
  · exact refuses_of_act (kind := 0x18) rfl taken short (doRingLayout_length h)
  · exact refuses_of_act (kind := 0x20) rfl taken short (doLoadCodes_length h)
  · exact refuses_of_act (kind := 0x21) rfl taken short (doLoadKeys_length h)
  · exact refuses_of_act (kind := 0x30) rfl taken short (doSetMode_length h)
  · exact refuses_of_act (kind := 0x40) rfl taken short (doWriteText_length h)
  · exact refuses_of_act (kind := 0x41) rfl taken short (doWriteCodes_length h)
  · exact refuses_of_act (kind := 0x60) rfl taken short (doEventSetup_length h)
  · exact refuses_of_act (kind := 0x61) rfl taken short (doEventClear_length h)
  · exact record_refused taken short (doLineAction_length h)
  · exact record_refused taken short (doPrinterAction_length h)
  · exact record_refused taken short (doPunchActionRecord_length h)
  · exact record_refused taken short (doAttachRecord_length h)
  · exact record_refused taken short (doReadEntries_length h)
  · exact record_refused taken short (doMove_length h)
  · exact record_refused taken short (doEmpty_length h)
  · exact record_refused taken short (doEmpty_length h)
  · exact record_refused taken short (doEmpty_length h)
  · exact record_refused taken short (doEmpty_length h)
  · exact record_refused taken (by simp) (doLineAction_range h)
  · exact record_refused taken (by simp) (doPrinterAction_range h)
  · exact record_refused taken (by simp) (doAttachRecord_range b h)
  · exact record_refused taken (by simp) (doReadEntries_range b c d e h)
  · exact record_refused taken (by simp) (doPunchActionRecord_range b h)

end Sys2Proof.Machine
end

section
/-! The host link (R183 to R187, R198, R199, R202): bytes, faults and gaps, the end of a record, the choice of what
goes out next, the notices and the STATUS reply. The claims O7, O10, O11, O12 and O34. -/

namespace Sys2Proof.Machine

/-! ## Overrun and unknown kinds (R186, R188, R190) -/

/-- A row that is a whole record stands for a dispatch with a payload that its length byte can carry. -/
theorem exec_of_isRecord {c : Instr} (record : isRecord c = true) (formed : c.wellFormed = true) (s : State) :
    ∃ (n : Nat) (act : State → Reply × State), n ≤ 64 ∧ exec c s = finish (hostRecord n act s) := by
  cases row c with
  | record h =>
    next k p =>
    refine ⟨p.length, dispatch k p, ?_, exec_of_recordOf h s⟩
    cases c <;> cases h <;> simp_all [Instr.wellFormed, frames]
  | unknown k p =>
    have known : k ∉ commandKinds := by
      simp only [Instr.wellFormed, Bool.and_eq_true, Bool.not_eq_true', List.contains_eq_mem, decide_eq_false_iff_not]
        at formed
      exact formed.2
    refine ⟨p.length, dispatch k p, ?_, exec_unknownKind known p s⟩
    simp only [Instr.wellFormed, frames, Bool.and_eq_true, decide_eq_true_eq] at formed
    exact formed.1
  | own h => cases c <;> cases h <;> cases record
  | power => cases record
  | fault => cases record
  | byte => cases record
  | falls => cases record
  | rises => cases record
  | key => cases record

/-- Settles O10: the overrun is `hostRecord_owed`, whichever record completes; an unknown kind is dispatched by
`exec_unknownKind`. -/
theorem overrunAndUnknownKind : Obligations.OverrunAndUnknownKind := by
  unfold Obligations.OverrunAndUnknownKind
  constructor
  · intro s owed awake
    have overrun : exec .recordOverrun s = finish (raise evLinkError (some errorOverrun) (emptyBuffer s)) :=
      happen_of_some (by simp [doOverrun, owed, awake]) s
    refine ⟨?_, fun c record formed => ?_⟩
    · rw [overrun, raise_eq]
      rfl
    · obtain ⟨n, act, short, run⟩ := exec_of_isRecord record formed s
      rw [run, overrun, hostRecord_owed n act s awake owed short]
  · intro k p s taken unknown short
    exact answers_of_act (exec_unknownKind unknown p s) taken short (by rw [dispatch_of_unknown unknown]; rfl) rfl

/-! ## What the table offers (R199) -/

/-- The first element of a sorted list that passes is the least that does. -/
theorem find?_sorted {α : Type} [LinearOrder α] {l : List α} (sorted : l.Pairwise (· < ·)) {p : α → Bool} {x : α}
    (h : l.find? p = some x) : p x = true ∧ ∀ y ∈ l, p y = true → x ≤ y := by
  obtain ⟨found, before, after, rfl, passed⟩ := List.find?_eq_some_iff_append.mp h
  refine ⟨found, fun y mem ok => ?_⟩
  rw [List.pairwise_append, List.pairwise_cons] at sorted
  rcases List.mem_append.mp mem with front | back
  · have refused := passed y front
    rw [ok] at refused
    cases refused
  · rcases List.mem_cons.mp back with rfl | later
    · exact le_rfl
    · exact (sorted.2.1.1 y later).le

/-- Event e may be offered. -/
theorem offerable_iff (s : State) (e : Fin 16) :
    offerable s e = true ↔ s.events[e].pending = true ∧ s.events[e].enabled = true := by
  simp [offerable]

theorem offered_eq_none_iff {s : State} (ok : EventsOk s) : offered s = none ↔ ∀ e, offerable s e = false := by
  simp only [offered, List.findSome?_eq_none_iff, List.find?_eq_none, List.mem_range, List.mem_finRange, true_imp_iff,
    Bool.and_eq_true, beq_iff_eq, not_and]
  constructor
  · intro none e
    by_contra eligible
    exact none (s.events[e]).priority (Nat.lt_succ_of_le (ok e).2.2) e (by simpa using eligible) rfl
  · intro none p _ e eligible
    simp [none e] at eligible

/-- Event e comes before event f in the table's order. -/
def ahead (s : State) (e f : Fin 16) : Prop :=
  s.events[e].priority < s.events[f].priority ∨ (s.events[e].priority = s.events[f].priority ∧ e ≤ f)

theorem ahead_antisymm {s : State} {e f : Fin 16} (h : ahead s e f) (h' : ahead s f e) : e = f := by
  unfold ahead at h h'
  rcases h with h | ⟨same, le⟩
  · omega
  · rcases h' with h' | ⟨_, ge⟩
    · omega
    · exact le_antisymm le ge

/-- The event offered may be, and comes before every other that may be. -/
theorem offered_least {s : State} {e : Fin 16} (h : offered s = some e) :
    offerable s e = true ∧ ∀ f, offerable s f = true → ahead s e f := by
  obtain ⟨lower, p, higher, split, found, none⟩ := List.findSome?_eq_some_iff.mp h
  obtain ⟨here, least⟩ := find?_sorted (List.sortedLT_finRange 16).pairwise found
  obtain ⟨eligible, priority⟩ := Bool.and_eq_true_iff.mp here
  rw [beq_iff_eq] at priority
  refine ⟨eligible, fun f other => ?_⟩
  have passed (below : s.events[f].priority ∈ lower) : False := by
    have nothing := List.find?_eq_none.mp (none _ below) f (List.mem_finRange f)
    simp [other] at nothing
  have sorted : (lower ++ p :: higher).Pairwise (· < ·) := split ▸ List.pairwise_lt_range
  rw [List.pairwise_append, List.pairwise_cons] at sorted
  obtain ⟨-, ⟨above, -⟩, -⟩ := sorted
  have below : p < 4 := List.mem_range.mp (by rw [split]; simp)
  unfold ahead
  rw [priority]
  rcases Nat.lt_trichotomy s.events[f].priority p with less | same | more
  · have mem : s.events[f].priority ∈ lower ++ p :: higher := by
      rw [← split]
      exact List.mem_range.mpr (less.trans below)
    rcases List.mem_append.mp mem with front | back
    · exact (passed front).elim
    · rcases List.mem_cons.mp back with same | later
      · omega
      · have := above _ later
        omega
  · exact .inr ⟨same.symm, least f (List.mem_finRange f) (by rw [other, same]; simp)⟩
  · exact .inl more

theorem offered_eq_some_iff {s : State} (ok : EventsOk s) (e : Fin 16) :
    offered s = some e ↔ offerable s e = true ∧ ∀ f, offerable s f = true → ahead s e f := by
  refine ⟨offered_least, fun ⟨eligible, least⟩ => ?_⟩
  cases offer : offered s with
  | none =>
    have refused := (offered_eq_none_iff ok).mp offer e
    rw [eligible] at refused
    cases refused
  | some f =>
    obtain ⟨other, first⟩ := offered_least offer
    rw [ahead_antisymm (least f other) (first e eligible)]

/-- The events that carry data, by their numbers (R198). -/
theorem eventHasData_iff (e : Fin 16) :
    eventHasData e = true ↔ e = 2 ∨ e = 6 ∨ e = 7 ∨ e = 10 ∨ e = 12 ∨ e = 13 ∨ e = 15 := by
  revert e
  decide

/-- A notice that begins, in the terms of the claims. -/
theorem beginNotice_eq (e : Fin 16) (s : State) :
    beginNotice e s =
      ((s.setLink
        { s.link with
          out := some
            { bytes :=
                frameRecord 0xFF (byte e.val :: byte s.events[e].count ::
                  (if e = 13 then [senseSet s]
                   else if e = 2 ∨ e = 6 ∨ e = 7 ∨ e = 10 ∨ e = 12 ∨ e = 15 then [s.events[e].data]
                   else []))
              start := s.now
              reply := false } }).setEvents
        (s.events.set e
          { s.events[e] with
            pending := false, count := 0, data := if e = 13 then senseSet s else s.events[e].data })).setSense
        (if e = 13 then s.sense.map fun i => { i with reported := i.debounced } else s.sense) := by
  by_cases sense : e = 13
  · subst sense
    have carries : eventHasData 13 = true := by decide
    simp [beginNotice, takeEventData, clearEvent, EventRecord.cleared, markReported, beginSending, noticeData,
      evSenseChange, carries]
    rfl
  · have silent : e ≠ evSenseChange := sense
    have carries : eventHasData e = true ↔ e = 2 ∨ e = 6 ∨ e = 7 ∨ e = 10 ∨ e = 12 ∨ e = 15 := by
      rw [eventHasData_iff]
      simp [sense]
    simp only [beginNotice, takeEventData, if_neg silent, noticeData, carries]
    rfl

/-- Settles O12: the offer is the least of the table's order, and what is begun for it is `beginNotice_eq`. -/
theorem noticeForLowestPriority : Obligations.NoticeForLowestPriority := by
  unfold Obligations.NoticeForLowestPriority
  intro s ok eligible
  have offers (e : Fin 16) : offerable s e = true ↔ eligible e := offerable_iff s e
  refine ⟨?_, fun e => ?_, fun e free empty offer => ?_⟩
  · rw [offered_eq_none_iff ok]
    exact forall_congr' fun e => by rw [← offers, Bool.not_eq_true]
  · rw [offered_eq_some_iff ok]
    simp only [offers]
    rfl
  · rw [chooseOutgoing_notice s free empty, offer]
    exact beginNotice_eq e s

/-! ## The end of an outgoing record (R187) -/

/-- What is sent next looks at the event table alone. -/
theorem offered_congr {s t : State} (h : t.events = s.events) : offered t = offered s := by
  simp only [offered, offerable, h]

/-- Settles O11: the step frees the link, and `chooseOutgoing` chooses. -/
theorem recordEndChoosesNext : Obligations.RecordEndChoosesNext := by
  unfold Obligations.RecordEndChoosesNext
  intro o s out v
  have ends : exec .outgoingRecordEnd s = .next (chooseOutgoing v) :=
    happen_of_some (by simp [doRecordEnd, out, v]) s
  have same : offered v = offered s := offered_congr rfl
  rw [ends]
  refine ⟨fun k p waits => ?_, fun waits => ?_, fun empty none => ?_, fun e empty offer => ?_⟩
  · rw [chooseOutgoing_reply v _ rfl waits]
    rfl
  · rw [chooseOutgoing_reply v _ rfl waits]
    rfl
  · rw [chooseOutgoing_notice v rfl empty, same, none]
  · rw [chooseOutgoing_notice v rfl empty, same, offer]

/-! ## Bytes, framing faults and gaps (R183 to R185) -/

/-- The start bit of a byte whose stop bit ends at an instant comes after the gap has run out (R184; log 35). -/
def Late (time : Nat) (s : State) : Prop :=
  (s.link.resync = true ∨ s.link.buffer ≠ .empty)
  ∧ ∃ g, s.link.gapFrom = some g
      ∧ (g + 20000) * (if s.link.fast then 38400 else 9600) + 10 * 1000000
          < max s.now time * (if s.link.fast then 38400 else 9600)

theorem gapPassed_iff (time : Nat) (s : State) : gapPassed (s.upTo time).now s = true ↔ Late time s := by
  unfold gapPassed Late
  cases s.link.gapFrom with
  | none => simp
  | some g => simp [byteGapLimit, linkRate, seconds, State.upTo]

/-- A byte that is not late finds the state as it stands. -/
theorem beforeByte_of_not_late {time : Nat} {s : State} (h : ¬ Late time s) : beforeByte time s = s :=
  beforeByte_in_time time s (by rw [← Bool.not_eq_true, gapPassed_iff]; exact h)

theorem exec_byte_of_not_late {time : Nat} {s : State} (h : ¬ Late time s) (b : Byte) :
    exec (.hostByteReceived b time) s = .next (chooseOutgoing (takeByte b (s.upTo time))) := by
  show finish (takeByte b ((beforeByte time s).upTo time)) = _
  rw [beforeByte_of_not_late h]
  rfl

theorem exec_fault_of_not_late {time : Nat} {s : State} (h : ¬ Late time s) :
    exec (.hostFramingFault time) s = .next (chooseOutgoing (framingFault (s.upTo time))) := by
  show finish (framingFault ((beforeByte time s).upTo time)) = _
  rw [beforeByte_of_not_late h]
  rfl

/-- A framing fault, in the terms of the claims. -/
theorem framingFault_eq (s : State) :
    framingFault s =
      if s.link.resync then s.setLink { s.link with gapFrom := some s.now }
      else
        (s.setEvents (occurs 15 (some 0) s)).setLink
          { s.link with buffer := .empty, resync := true, gapFrom := some s.now } := by
  unfold framingFault
  rw [raise_eq]
  rfl

/-- The expiry of the gap, in the terms of the claims. -/
theorem doGapExpiry_eq {g : Nat} {s : State} (gap : s.link.gapFrom = some g) :
    doGapExpiry s =
      if s.link.resync then some ((s.upTo (g + 20001)).setLink { s.link with resync := false, gapFrom := none })
      else if s.link.buffer = .empty then none
      else some (((s.upTo (g + 20001)).setEvents (occurs 15 (some 0) s)).setLink
        { s.link with buffer := .empty, gapFrom := none }) := by
  unfold doGapExpiry
  rw [gap]
  simp only [raise_eq]
  rfl

theorem chooseOutgoing_gapFrom (s : State) : (chooseOutgoing s).link.gapFrom = s.link.gapFrom := by
  unfold chooseOutgoing
  split
  · rfl
  · split
    · next r _ => cases r <;> rfl
    · split
      · rw [beginNotice_eq]
        rfl
      · rfl

/-- A late byte or fault finds the state that the expiry of the gap leaves. -/
theorem late_after_expiry {time : Nat} {s v : State} (late : Late time s) (h : exec .interByteGapExpiry s = .next v) :
    beforeByte time s = v ∧ ¬ Late time v := by
  have passed := (gapPassed_iff time s).mpr late
  obtain ⟨part, g, gap, -⟩ := late
  obtain ⟨t, ends⟩ : ∃ t, doGapExpiry s = some t := by
    rw [doGapExpiry_eq gap]
    by_cases resync : s.link.resync = true
    · exact ⟨_, if_pos resync⟩
    · exact ⟨_, by rw [if_neg resync, if_neg (part.resolve_left resync)]⟩
  have next : v = chooseOutgoing t := by
    have run : exec .interByteGapExpiry s = .next (chooseOutgoing t) := happen_of_some ends s
    rw [run] at h
    exact (Host.Outcome.next.inj h).symm
  rw [next]
  refine ⟨beforeByte_late time s t passed ends, fun ⟨_, g', gap', _⟩ => ?_⟩
  rw [chooseOutgoing_gapFrom, doGapExpiry_gapFrom s t ends] at gap'
  cases gap'

/-- Settles O7: a late byte or fault by `late_after_expiry`, one in time by the branches of `takeByte` and
`framingFault`, the expiry itself by `doGapExpiry_eq`. -/
theorem hostBytes : Obligations.HostBytes := by
  unfold Obligations.HostBytes
  intro late
  refine ⟨fun b time s v isLate expiry => ?_, fun b time s inTime => ?_, fun time s inTime => ?_, fun g s gap => ?_⟩
  · obtain ⟨found, after⟩ := late_after_expiry isLate expiry
    rw [exec_byte_of_not_late after, exec_fault_of_not_late after]
    subst found
    exact ⟨rfl, rfl⟩
  · intro u put
    rw [exec_byte_of_not_late inTime]
    have resyncs : u.link.resync = s.link.resync := rfl
    have buffer : u.link.buffer = s.link.buffer := rfl
    refine ⟨fun resync => ?_, fun awake => ⟨fun empty => ?_, fun k kind low high => ?_, fun k n got part more => ?_⟩⟩
    · rw [takeByte, resyncs, if_pos resync]
      rfl
    · rw [takeByte, resyncs, if_neg (by simp [awake]), buffer, empty]
      rfl
    · have notZero : b ≠ 0 := by bv_omega
      rw [takeByte, resyncs, if_neg (by simp [awake]), buffer, kind]
      simp only [if_neg (Nat.not_lt.mpr high), if_neg notZero]
      rfl
    · rw [takeByte, resyncs, if_neg (by simp [awake]), buffer, part]
      simp only [if_neg (Nat.not_le.mpr more)]
      rfl
  · intro u
    rw [exec_fault_of_not_late inTime]
    have resyncs : u.link.resync = s.link.resync := rfl
    have buffer : u.link.buffer = s.link.buffer := rfl
    refine ⟨fun awake => ⟨?_, fun k b kind high => ?_⟩, fun resync => ?_⟩
    · rw [framingFault_eq, resyncs, if_neg (by simp [awake])]
      rfl
    · rw [exec_byte_of_not_late inTime, takeByte, resyncs, if_neg (by simp [awake]), buffer, kind]
      simp only [if_pos high]
    · rw [framingFault_eq, resyncs, if_pos resync]
      rfl
  · intro v
    have expires (t : State) (h : doGapExpiry s = some t) : exec .interByteGapExpiry s = .next (chooseOutgoing t) :=
      happen_of_some h s
    refine ⟨fun resync => expires _ ?_, fun awake part => expires _ ?_⟩
    · rw [doGapExpiry_eq gap, if_pos resync]
    · rw [doGapExpiry_eq gap, if_neg (by simp [awake]), if_neg part]

end Sys2Proof.Machine
end

section
/-! The STATUS reply (R202) and the assembly of a record from its bytes (R183, R184), with the claims O34 and O8. -/

namespace Sys2Proof.Machine

/-! ## STATUS (R148, R165, R202) -/

theorem printUnread_iff (s : State) :
    printUnread s = true ↔ 0 < unread s (if s.modes.station = .online then .printP else .printA) := by
  unfold printUnread printCursor
  cases s.modes.station <;> simp

theorem punchUnread_iff (s : State) :
    punchUnread s = true ↔
      (s.modes.source = .traffic ∧ 0 < unread s .punchT) ∨ (s.modes.source = .loc ∧ 0 < unread s .punchL) := by
  unfold punchUnread punchCursor
  cases s.modes.source <;> simp

/-- The printer state of STATUS, as the first that applies. -/
theorem printerState_eq (s : State) :
    let p := s.printer
    printerState s =
      if p.halts.paper || p.halts.cover || p.halts.carriage || p.halts.host then 2
      else if ¬ s.motor.state = .running ∧ (p.held ≠ none
          ∨ 0 < unread s (if s.modes.station = .online then .printP else .printA)) then 3
      else if p.held ≠ none ∨ p.wheel ≠ .idle ∨ p.hammer ≠ none ∨ p.carriage ≠ .idle ∨ p.paper ≠ none then 1
      else 0 := by
  intro p
  unfold printerState
  refine if_congr Iff.rfl rfl (if_congr ?_ rfl (if_congr ?_ rfl rfl))
  · simp [motorRunning, ← printUnread_iff, p, Option.isSome_iff_ne_none]
  · simp [Printer.busy, p, Option.isSome_iff_ne_none, or_assoc]

/-- The punch state of STATUS, as the first that applies. -/
theorem punchState_eq (s : State) :
    let q := s.punch
    let unreadEntries := (s.modes.source = .traffic ∧ 0 < unread s .punchT)
      ∨ (s.modes.source = .loc ∧ 0 < unread s .punchL)
    punchState s =
      if q.halts.tapeOut || q.halts.cover || q.halts.host then 2
      else if ¬ s.motor.state = .running ∧ (0 < q.feeds ∨ q.held ≠ none ∨ q.work ≠ none ∨ unreadEntries) then 3
      else if q.work ≠ none ∨ q.held ≠ none ∨ 0 < q.feeds then 1
      else 0 := by
  intro q unreadEntries
  unfold punchState
  refine if_congr Iff.rfl rfl (if_congr ?_ rfl (if_congr ?_ rfl rfl))
  · simp [motorRunning, ← punchUnread_iff, q, unreadEntries, Option.isSome_iff_ne_none, or_assoc]
  · simp [q, Option.isSome_iff_ne_none, or_assoc]

/-- The fields do not look at the link. -/
theorem statusFields_setLink (v : Link) (s : State) : statusFields (s.setLink v) = statusFields s := by
  have unreads (c : CursorId) : unread (s.setLink v) c = unread s c := rfl
  unfold statusFields
  rw [printerState_eq, punchState_eq, printerState_eq, punchState_eq]
  simp only [unreads]
  rfl

/-- A STATUS reply that begins on a free link: the contents fixed, the host told the debounced states. -/
theorem beginReply_status (s : State) :
    beginReply .status s =
      { s with
        link :=
          { s.link with
            waiting := none
            out := some { bytes := 0xD0 :: 59 :: 0 :: statusFields s, start := s.now, reply := true } }
        sense := s.sense.map fun i => { i with reported := i.debounced } } := by
  simp only [beginReply, statusFields_setLink]
  rfl

theorem stationValue_eq (m : StationMode) : m.value = if m = .online then 0 else 1 := by
  cases m <;> rfl

/-- Settles O34: the reply is `chooseOutgoing`'s, its contents are `statusFields` field by field. -/
theorem statusReply : Obligations.StatusReply := by
  unfold Obligations.StatusReply
  intro s taking taken p q running punchUnread printer punch fields
  have run : exec .status s = .next (chooseOutgoing (oweReply .status (emptyBuffer s))) := by
    show finish (hostRecord 0 doStatus s) = _
    rw [hostRecord_taken 0 doStatus s taking (by decide)]
    rfl
  have contents : statusFields s = fields := by
    unfold statusFields
    rw [printerState_eq, punchState_eq, stationValue_eq]
    rfl
  have none : s.link.waiting = none := by
    have owes := taking.2
    simp only [replyOwed, Bool.or_eq_false_iff] at owes
    simpa using owes.1
  rw [run]
  refine ⟨fun o out => ?_, fun free => ?_⟩
  · rw [chooseOutgoing_busy (oweReply .status (emptyBuffer s)) o out]
    rfl
  · have owed : statusFields (oweReply .status (emptyBuffer s)) = fields := by
      rw [oweReply, emptyBuffer, statusFields_setLink, statusFields_setLink, contents]
    have link : taken.waiting = .none := none
    rw [chooseOutgoing_reply (oweReply .status (emptyBuffer s)) .status free rfl, beginReply_status, owed, link]
    rfl

/-! ## A record from its bytes (R183, R184) -/

/-- The stamp of a byte that does not come late after the byte stamped before it (R184; log 35). -/
def InTime (rate a b : Nat) : Prop := a ≤ b ∧ b * rate ≤ (a + 20000) * rate + 10 * 1000000

theorem le_of_chain {rate : Nat} {times : List Nat} {a last : Nat} (chain : (a :: times).IsChain (InTime rate))
    (final : (a :: times).getLast? = some last) : a ≤ last := by
  induction times generalizing a with
  | nil => simp_all
  | cons b times ih =>
    rw [List.isChain_cons_cons] at chain
    exact chain.1.1.trans (ih chain.2 (by simpa using final))

/-- A byte within the gap is not late, where the gap is timed from now, at or after the stamp before it. -/
theorem not_late_of_inTime {s : State} {a b : Nat} (gap : s.link.gapFrom = some s.now) (after : a ≤ s.now)
    (inTime : InTime (if s.link.fast then 38400 else 9600) a b) : ¬ Late b s := by
  rintro ⟨-, g, eq, late⟩
  obtain ⟨-, near⟩ := inTime
  rw [gap] at eq
  cases eq
  revert near late
  generalize (if s.link.fast then 38400 else 9600) = rate
  intro near late
  have later : (a + 20000) * rate ≤ (s.now + 20000) * rate := Nat.mul_le_mul_right rate (by omega)
  have here : s.now * rate ≤ (s.now + 20000) * rate := Nat.mul_le_mul_right rate (by omega)
  rcases Nat.le_total s.now b with h | h
  · rw [Nat.max_eq_right h] at late
    omega
  · rw [Nat.max_eq_left h] at late
    omega

/-- A record that is taken does not depend on the assembly buffer. -/
theorem takeRecord_congr {act : State → Reply × State} {s t : State} (h : emptyBuffer s = emptyBuffer t) :
    takeRecord act s = takeRecord act t := by
  unfold takeRecord
  rw [h]

/-- The state of the clock after two instants, the later of them last. -/
theorem emptyBuffer_upTo_upTo {a b : Nat} (h : a ≤ b) {x : Buffer} (s : State) :
    emptyBuffer (((setBuffer x (s.upTo a)).setPending []).upTo b) = emptyBuffer ((s.setPending []).upTo b) := by
  have clock : max (max s.now a) b = max s.now b := by omega
  show emptyBuffer (State.setNow _ (max (max s.now a) b)) = emptyBuffer (State.setNow _ (max s.now b))
  rw [clock]
  rfl

/-- The link is served whatever stands in the assembly buffer. -/
theorem LinkServed.of_eq' {s t : State} (h : LinkServed s) (out : t.link.out = s.link.out)
    (waiting : t.link.waiting = s.link.waiting) (events : t.events = s.events) : LinkServed t := by
  have offers : offered t = offered s := offered_congr events
  unfold LinkServed
  rw [out, waiting, offers]
  exact h

/-- A number of steps of the part; `run_eq_steps` ties it to the host's `Core.run`. -/
def steps : Nat → State → Host.Outcome State Fault Refusal
  | 0, s => .next s
  | n + 1, s =>
    match step s with
    | .next t => steps n t
    | .fault r => .fault r
    | .refused r => .refused r

theorem run_eq_steps (n : Nat) (s : State) : Sys2Proof.core.run n s = steps n s := by
  induction n generalizing s with
  | zero => rfl
  | succ n ih =>
    cases h : step s with
    | next t =>
      have same : Sys2Proof.core.step s = .next t := h
      simp only [Host.Core.run, same, steps, h]
      exact ih t
    | fault r =>
      have same : Sys2Proof.core.step s = .fault r := h
      simp only [Host.Core.run, same, steps, h]
      rfl
    | refused r =>
      have same : Sys2Proof.core.step s = .refused r := h
      simp only [Host.Core.run, same, steps, h]
      rfl

/-- One byte from the front of the queue. -/
theorem steps_byte {s : State} {b : Byte} {time : Nat} (inTime : ¬ Late time s) (n : Nat) (rest : List Instr) :
    steps (n + 1) (s.setPending (.hostByteReceived b time :: rest)) =
      steps n (chooseOutgoing (takeByte b ((s.setPending rest).upTo time))) := by
  have stepped : step (s.setPending (.hostByteReceived b time :: rest)) =
      .next (chooseOutgoing (takeByte b ((s.setPending rest).upTo time))) :=
    exec_byte_of_not_late (s := s.setPending rest) inTime b
  simp only [steps, stepped]

/-- The bytes of a payload from the front of the queue, up to the dispatch at the last of them. -/
theorem steps_payload (k : Byte) (n : Nat) {rest : List Byte} {times : List Nat} {got : List Byte} {a last : Nat}
    {s : State} (awake : s.link.resync = false) (buffer : s.link.buffer = .payload k n got)
    (gap : s.link.gapFrom = some s.now) (after : a ≤ s.now) (served : LinkServed s) (more : rest ≠ [])
    (total : got.length + rest.length = n) (stamps : times.length = rest.length)
    (final : times.getLast? = Option.some last)
    (chain : (a :: times).IsChain (InTime (if s.link.fast then 38400 else 9600))) :
    steps rest.length (s.setPending (List.zipWith Instr.hostByteReceived rest times)) =
      .next (chooseOutgoing (takeRecord (dispatch k (got ++ rest)) ((s.setPending []).upTo last))) := by
  induction rest generalizing s times got a with
  | nil => contradiction
  | cons b rest ih =>
    obtain _ | ⟨time, times⟩ := times
    · simp at stamps
    rw [List.isChain_cons_cons] at chain
    have inTime := not_late_of_inTime gap after chain.1
    rw [List.zipWith_cons_cons, List.length_cons, steps_byte inTime]
    have timed : (time :: times).getLast? = some last := final
    have taken (q : List Instr) :
        takeByte b ((s.setPending q).upTo time) =
          if n ≤ got.length + 1 then takeRecord (dispatch k (got ++ [b])) ((s.setPending q).upTo time)
          else setBuffer (.payload k n (got ++ [b])) ((s.setPending q).upTo time) := by
      have link : ((s.setPending q).upTo time).link = s.link := rfl
      rw [takeByte, link, if_neg (by simp [awake]), buffer]
    rw [taken]
    cases rest with
    | nil =>
      obtain rfl : times = [] := List.length_eq_zero_iff.mp (by simpa using stamps)
      obtain rfl : time = last := by simpa using timed
      have whole : n ≤ got.length + 1 := by simp_all
      rw [if_pos whole]
      rfl
    | cons b' rest =>
      have part : ¬ n ≤ got.length + 1 := by
        simp only [List.length_cons] at total
        omega
      rw [if_neg part]
      let s' : State := setBuffer (.payload k n (got ++ [b])) (s.upTo time)
      have served' : LinkServed s' := served.of_eq' rfl rfl rfl
      have kept : chooseOutgoing (setBuffer (.payload k n (got ++ [b]))
            ((s.setPending (List.zipWith Instr.hostByteReceived (b' :: rest) times)).upTo time)) =
          s'.setPending (List.zipWith Instr.hostByteReceived (b' :: rest) times) :=
        chooseOutgoing_served _ (served'.of_eq' rfl rfl rfl)
      have final' : times.getLast? = some last := by
        cases times with
        | nil => simp at stamps
        | cons => simpa using timed
      rw [kept, ih (a := time) (s := s') awake rfl rfl (Nat.le_max_right _ _) served' (by simp) (by simp_all; omega)
        (by simpa using stamps) final' chain.2, List.append_assoc, List.singleton_append]
      congr 2
      refine takeRecord_congr ?_
      exact emptyBuffer_upTo_upTo (le_of_chain chain.2 timed) s

/-- The bytes of a record from the front of the queue: the kind byte and the length byte by `steps_byte`, the payload
by `steps_payload`. -/
theorem steps_record (k : Byte) {p : List Byte} {times : List Nat} {t₀ t₁ last : Nat} {s : State} (short : p.length ≤ 64)
    (awake : s.link.resync = false) (buffer : s.link.buffer = .empty) (served : LinkServed s)
    (stamps : times.length = p.length) (final : (t₁ :: times).getLast? = some last)
    (chain : (t₀ :: t₁ :: times).IsChain (InTime (if s.link.fast then 38400 else 9600))) :
    steps (p.length + 2)
        (s.setPending (List.zipWith Instr.hostByteReceived (frameRecord k p) (t₀ :: t₁ :: times))) =
      .next (chooseOutgoing (takeRecord (dispatch k p) ((s.setPending []).upTo last))) := by
  rw [List.isChain_cons_cons] at chain
  have fresh : ¬ Late t₀ s := by
    rintro ⟨resync | part, -⟩
    · simp [awake] at resync
    · exact part buffer
  let s₁ : State := setBuffer (.kind k) (s.upTo t₀)
  have served₁ : LinkServed s₁ := served.of_eq' rfl rfl rfl
  have inTime : ¬ Late t₁ s₁ := not_late_of_inTime rfl (Nat.le_max_right _ _) chain.1
  have first (q : List Instr) :
      chooseOutgoing (takeByte k ((s.setPending q).upTo t₀)) = s₁.setPending q := by
    have link : ((s.setPending q).upTo t₀).link = s.link := rfl
    rw [takeByte, link, if_neg (by simp [awake]), buffer]
    exact chooseOutgoing_served _ (served₁.of_eq' rfl rfl rfl)
  have last_after : t₀ ≤ last ∧ t₁ ≤ last := by
    have second := le_of_chain chain.2 final
    exact ⟨chain.1.1.trans second, second⟩
  rw [frameRecord, List.zipWith_cons_cons, List.zipWith_cons_cons, steps_byte fresh, first,
    steps_byte inTime]
  have length : (byte p.length).toNat = p.length := by
    simp only [byte, BitVec.toNat_ofNat]
    omega
  have second (q : List Instr) :
      takeByte (byte p.length) ((s₁.setPending q).upTo t₁) =
        if byte p.length = 0 then takeRecord (dispatch k []) ((s₁.setPending q).upTo t₁)
        else setBuffer (.payload k p.length []) ((s₁.setPending q).upTo t₁) := by
    have link : ((s₁.setPending q).upTo t₁).link = { s.link with buffer := .kind k, gapFrom := some s₁.now } := rfl
    rw [takeByte, link, if_neg (by simp [awake])]
    simp only [length, if_neg (Nat.not_lt.mpr short)]
  rw [second]
  cases p with
  | nil =>
    obtain rfl : times = [] := List.length_eq_zero_iff.mp stamps
    obtain rfl : t₁ = last := by simpa using final
    rw [if_pos (show byte ([] : List Byte).length = 0 from rfl)]
    show Host.Outcome.next _ = _
    congr 2
    exact takeRecord_congr (emptyBuffer_upTo_upTo last_after.1 s)
  | cons b p =>
    have more : byte (b :: p).length ≠ 0 := fun zero => by
      rw [zero] at length
      simp at length
    rw [if_neg more]
    let s₂ : State := setBuffer (.payload k (b :: p).length []) (s₁.upTo t₁)
    have served₂ : LinkServed s₂ := served₁.of_eq' rfl rfl rfl
    have kept (q : List Instr) :
        chooseOutgoing (setBuffer (.payload k (b :: p).length []) ((s₁.setPending q).upTo t₁)) = s₂.setPending q :=
      chooseOutgoing_served _ (served₂.of_eq' rfl rfl rfl)
    have final' : times.getLast? = some last := by
      cases times with
      | nil => simp at stamps
      | cons => simpa using final
    rw [kept, steps_payload k (b :: p).length (s := s₂) awake rfl rfl (Nat.le_max_right _ _) served₂ (List.cons_ne_nil b p) (by simp)
      stamps final' chain.2, List.nil_append]
    congr 2
    refine takeRecord_congr ?_
    rw [emptyBuffer_upTo_upTo last_after.2, emptyBuffer_upTo_upTo last_after.1]

/-- Settles O8: `steps_record`, with the stamps as a chain. -/
theorem bytesMakeTheRecord : Obligations.BytesMakeTheRecord := by
  unfold Obligations.BytesMakeTheRecord
  intro k p times last s rate short awake buffer served stamps final spaced
  obtain _ | ⟨t₀, _ | ⟨t₁, times⟩⟩ := times
  · simp at stamps
  · simp at stamps
  have chain : (t₀ :: t₁ :: times).IsChain (InTime rate) := by
    rw [List.isChain_iff_getElem]
    intro i within
    exact spaced i _ _ (List.getElem?_eq_getElem _) (List.getElem?_eq_getElem _)
  exact (run_eq_steps _ _).trans (steps_record k short awake buffer served (by simpa using stamps) final chain)

end Sys2Proof.Machine
end

section
/-! RESET and RESTART (R204, R205 and each chapter's own reset rule), and the claims O4, O5 and O6. -/

namespace Sys2Proof.Machine

/-! ## SENSE_CHANGE after a reset (R177, R178) -/

/-- SENSE_CHANGE raised where the states differ, and no other event. -/
theorem raiseSenseChange_events (s : State) (e : Fin 16) :
    (raiseSenseChange s).events[e] =
      if e = 13 ∧ ∃ k : Fin 6, s.sense[k].debounced ≠ s.sense[k].reported then
        { s.events[e] with pending := true, count := satAdd 255 s.events[e].count 1 }
      else s.events[e] := by
  simp only [← senseDiffers_iff]
  unfold raiseSenseChange
  by_cases differs : senseDiffers s = true
  · rw [if_pos differs]
    show (s.events.set evSenseChange (s.events[evSenseChange].occur none))[e] = _
    rw [getElem_set_event]
    by_cases here : e = 13
    · subst here
      simp [differs, evSenseChange]
      rfl
    · have other : e ≠ evSenseChange := here
      simp [here]
  · rw [if_neg differs, if_neg (by simp [differs])]

/-! ## The RESET pin (R205) -/

/-- Settles O4: the state that `powerOn` makes, with SENSE_CHANGE by `raiseSenseChange_events`. -/
theorem powerOnReset : Obligations.PowerOnReset := by
  unfold Obligations.PowerOnReset
  intro rate s
  let u : State :=
    { State.reset with
      ticket := s.ticket
      lineIn := s.lineIn
      keyboard := { Keyboard.powerOn with contacts := s.keyboard.contacts }
      printer := .powerOn s.sense[inPaperOut].pin s.sense[inCoverOpen].pin
      punch := .powerOn s.sense[inTapeOut].pin s.sense[inCoverOpen].pin
      sense := s.sense.map fun i => .powerOn i.pin
      link := .powerOn rate
      pending := s.pending }
  have raised : powerOn rate s = { u with events := (raiseSenseChange u).events } := raiseSenseChange_eq u
  have sense (k : Fin 6) : u.sense[k] = .powerOn s.sense[k].pin := by simp [u]
  have events (e : Fin 16) : (raiseSenseChange u).events[e] =
      if e = 13 ∧ ∃ k : Fin 6, s.sense[k].pin = true then { EventRecord.powerOn with pending := true, count := 1 }
      else .powerOn := by
    have blank : u.events[e] = .powerOn := by simp [u, State.reset]
    simp only [raiseSenseChange_events, sense, blank]
    simp only [SenseInput.powerOn, ne_eq, Bool.not_eq_false]
    rfl
  have silent (e : Fin 16) : offerable (powerOn rate s) e = false := by
    rw [raised]
    unfold offerable
    simp only [events]
    split <;> rfl
  have served : LinkServed (powerOn rate s) := fun _ => by
    exact ⟨by rw [raised]; rfl, (offered_eq_none_iff (LinkOk.powerOn rate s).events).mpr silent⟩
  refine ⟨powerOn rate s, congrArg Host.Outcome.next (chooseOutgoing_served _ served), ?_⟩
  rw [raised]
  exact ⟨rfl, rfl, rfl, rfl, rfl, rfl, rfl, rfl, rfl, rfl, rfl, rfl, rfl, rfl, rfl, rfl, rfl, sense, events⟩

/-- The machine right after reset is the one that a release of RESET over it leaves. -/
theorem powerOn_reset : powerOn false State.reset = State.reset := by
  have same : State.reset.sense.map (fun i => SenseInput.powerOn i.pin) = State.reset.sense := by
    simp [State.reset]
    rfl
  unfold powerOn
  rw [same]
  rfl

/-- Settles O6: what a release of RESET leaves meets each invariant. -/
theorem resetMeetsInvariants : Obligations.ResetMeetsInvariants := by
  unfold Obligations.ResetMeetsInvariants
  rw [← powerOn_reset]
  intro s
  have kept : CursorsKept s := storeClosed_cursorsKept.power false
  have line : LineConsistent s := LineConsistent.powerOn false _
  have values := (values_iff s).mpr ⟨ValuesOk.powerOn false _, LostOk.storeClosed.power false⟩
  have link : LinkOk s := LinkOk.powerOn false _
  have served : LinkServed s := by
    show LinkServed (powerOn false State.reset)
    rw [powerOn_reset]
    unfold LinkServed
    decide
  have motor : MotorTimersOk s := .of_reset (by simp [s, powerOn, State.reset])
  exact ⟨kept.ok, cursorsBound_of_retained kept.ok kept.retained, kept.retained, line.1, line.2.1, line.2.2.1,
      line.2.2.2,
    storeClosed_attachedByMode.power false, storeClosed_heldThrough.power false,
        storeClosed_haltedHoldNothing.power false,
    motor, values.1, values.2.1, values.2.2, link.events, link.told, served, link.owed⟩

/-! ## RESTART (R204) -/

/-- The machine after RESTART, before the events are looked at; `restartAll_eq` ties it to the model. -/
def restarted (s : State) : State :=
  let line := s.controller.state.afterRestart
  { s with
    store := s.store.rewound
    controller :=
      { state := line, originate := false, originateTimer := .stopped, confirmTimer := none,
        clearTimer := if line = .clearing then some (s.now + s.setup.line.clearSendMs * 1000) else none,
        callKind := none, markerOpen := false }
    transmitter := { Transmitter.powerOn with state := if line = .clearing then .clearSpacing else .idle }
    receiver := { Receiver.powerOn with ahead := s.receiver.ahead }
    keyboard := { Keyboard.powerOn with contacts := s.keyboard.contacts, lastRead := s.keyboard.lastRead }
    printer := { Printer.powerOn s.printer.halts.paper s.printer.halts.cover with wheelAt := s.printer.wheelAt }
    punch := .powerOn s.punch.halts.tapeOut s.punch.halts.cover
    motor := .powerOn
    bell := .powerOn
    events := s.events.map EventRecord.cleared }

/-- The test of the lock, in the terms of the claims (R119). -/
theorem testLock_eq (s : State) : testLock s = lockTested (destination s) s := by
  unfold testLock lockTested
  cases locked : s.keyboard.locked with
  | false =>
    have same : { s.keyboard with locked := false } = s.keyboard := by simp [← locked]
    simp [same]
  | true =>
    by_cases free : 8 ≤ freeSpace s (destination s)
    · simp [free, State.setKeyboard]
    · have same : { s.keyboard with locked := true } = s.keyboard := by simp [← locked]
      simp [free, same]

/-- RESTART's controller and transmitter (R62, R88, R89). -/
theorem restartLine_eq (s : State) :
    restartLine s =
      { s with
        controller :=
          { Controller.powerOn with
            state := s.controller.state.afterRestart
            clearTimer :=
              if s.controller.state.afterRestart = .clearing then some (s.now + s.setup.line.clearSendMs * 1000)
              else none }
        transmitter :=
          { Transmitter.powerOn with
            state := if s.controller.state.afterRestart = .clearing then .clearSpacing else .idle } } := by
  unfold restartLine
  by_cases clearing : s.controller.state.afterRestart = .clearing
  · simp only [if_pos clearing]
    rfl
  · simp only [if_neg clearing]
    rfl

/-- RESTART at the other blocks. -/
theorem restartBlocks_eq (s : State) :
    let u := restartPunch (restartPrinter (restartKeyboard (restartReceiver s)))
    (u.setMotor .powerOn).setBell .powerOn =
      { s with
        receiver := { Receiver.powerOn with ahead := s.receiver.ahead }
        keyboard := { Keyboard.powerOn with contacts := s.keyboard.contacts, lastRead := s.keyboard.lastRead }
        printer := { Printer.powerOn s.printer.halts.paper s.printer.halts.cover with wheelAt := s.printer.wheelAt }
        punch := .powerOn s.punch.halts.tapeOut s.punch.halts.cover
        motor := .powerOn
        bell := .powerOn } := rfl

theorem raiseSenseChange_setLink (v : Link) (s : State) :
    raiseSenseChange (s.setLink v) = (raiseSenseChange s).setLink v := by
  have same : senseDiffers (s.setLink v) = senseDiffers s := rfl
  unfold raiseSenseChange
  rw [same]
  split <;> rfl

theorem restartAll_eq (s : State) : restartAll s = raiseSenseChange (restarted s) := by
  unfold restartAll resetRings
  simp only [restartBlocks_eq, restartEvents, testLock_eq, restartLine_eq]
  refine congrArg raiseSenseChange ?_
  rfl

/-- Settles O5: `restartAll_eq` block by block, with SENSE_CHANGE by `raiseSenseChange_events`. -/
theorem restart : Obligations.Restart := by
  unfold Obligations.Restart
  intro s taken
  have raised : restartAll s = { restarted s with events := (raiseSenseChange (restarted s)).events } := by
    rw [restartAll_eq, ← raiseSenseChange_eq]
  refine ⟨restartAll s, answers_of_act (n := 0) (act := doRestart) rfl taken (by decide) ?_ (by rw [raised]; rfl), ?_⟩
  · refine Prod.ext rfl ?_
    show restartAll (emptyBuffer s) = _
    rw [restartAll_eq, restartAll_eq, ← raiseSenseChange_setLink]
    rfl
  · rw [raised]
    refine ⟨rfl, rfl, rfl, rfl, rfl, rfl, rfl, rfl, rfl, rfl, rfl, ?_, ?_, ?_, rfl, rfl, rfl, rfl, rfl, rfl, ?_⟩
    · intro i
      cases i <;> rfl
    · exact fun c => Cursors.get_rewound s.store.cursors c
    · intro line
      have after : s.controller.state.afterRestart = line := by
        simp only [line]
        cases s.controller.state <;> rfl
      clear_value line
      subst after
      exact ⟨rfl, rfl⟩
    · intro e
      have cleared : (restarted s).events[e] = s.events[e].cleared := by simp [restarted]
      have sense : (restarted s).sense = s.sense := rfl
      simp only [raiseSenseChange_events, cleared, sense]
      rfl

end Sys2Proof.Machine
end

section
/-! Which commands may change the tables and the setup values (R28, R40, R42, R94, R124, R126, R127, R150, R181), and
the claim O3. -/

namespace Sys2Proof.Machine

/-- The kind of the record that a row stands for, 0 for a row that is no record. -/
def kindOf (c : Instr) : Byte := ((recordOf c).map Prod.fst).getD 0

/-- The tables, the setup values and the polarities of the sense inputs are as they were, but for the group that a
record of kind k loads or sets. -/
structure KeptBut (k : Byte) (s t : State) : Prop where
  codes : k ≠ 0x20 → t.tables.codes = s.tables.codes
  keys : k ≠ 0x21 → t.tables.keys = s.tables.keys
  answerBack : k ≠ 0x22 → t.tables.answerBack = s.tables.answerBack
  refusal : k ≠ 0x23 → t.tables.refusal = s.tables.refusal
  line : k ≠ 0x10 → t.setup.line = s.setup.line
  printer : k ≠ 0x11 → t.setup.printer = s.setup.printer
  keyboard : k ≠ 0x12 → t.setup.keyboard = s.setup.keyboard
  punch : k ≠ 0x13 → t.setup.punch = s.setup.punch
  motor : k ≠ 0x14 → t.setup.motor = s.setup.motor
  polarity : k ≠ 0x14 → ∀ i : Fin 6, t.sense[i].assertedLow = s.sense[i].assertedLow

namespace KeptBut

variable {k : Byte} {s t u : State}

theorem of_same (tables : t.tables = s.tables) (setup : t.setup = s.setup)
    (polarity : ∀ i : Fin 6, t.sense[i].assertedLow = s.sense[i].assertedLow) : KeptBut k s t := by
  constructor <;> intro _
  case polarity => exact polarity
  all_goals simp only [tables, setup]

theorem of_eq (tables : t.tables = s.tables) (setup : t.setup = s.setup) (sense : t.sense = s.sense) :
    KeptBut k s t :=
  of_same tables setup fun _ => by rw [sense]

theorem refl (s : State) : KeptBut k s s := of_eq rfl rfl rfl

theorem trans (h : KeptBut k s t) (h' : KeptBut k t u) : KeptBut k s u := by
  constructor <;> intro other
  · exact (h'.codes other).trans (h.codes other)
  · exact (h'.keys other).trans (h.keys other)
  · exact (h'.answerBack other).trans (h.answerBack other)
  · exact (h'.refusal other).trans (h.refusal other)
  · exact (h'.line other).trans (h.line other)
  · exact (h'.printer other).trans (h.printer other)
  · exact (h'.keyboard other).trans (h.keyboard other)
  · exact (h'.punch other).trans (h.punch other)
  · exact (h'.motor other).trans (h.motor other)
  · exact fun i => (h'.polarity other i).trans (h.polarity other i)

/-- The host's being told of the debounced states changes no polarity. -/
theorem chooseOutgoing (s : State) : KeptBut k s (chooseOutgoing s) := by
  refine of_same (by simp) (by simp) fun i => ?_
  unfold Machine.chooseOutgoing
  split
  · rfl
  · split
    · next r _ =>
      cases r
      · rfl
      · simp [beginReply_status]
    · split
      · rw [beginNotice_eq]
        simp only [State.setSense_sense]
        split <;> simp
      · rfl

/-! ## The part's own steps -/

/-- An input put in place with its polarity. -/
theorem polarity_setInput (s : State) (j : Fin 6) {v : SenseInput} (same : v.assertedLow = s.sense[j].assertedLow)
    (i : Fin 6) : (s.sense.set j v)[i].assertedLow = s.sense[i].assertedLow := by
  simp only [Fin.getElem_fin, Vector.getElem_set]
  split
  · next here =>
    have eq : j = i := Fin.ext here
    rw [same, eq]
    rfl
  · rfl

theorem debounceTo_sense (j : Fin 6) (v : Bool) (s : State) :
    (debounceTo j v s).sense = s.sense.set j { s.sense[j] with debounced := v } := by
  simp only [debounceTo, senseAsserted, senseReleased, setInput]
  repeat' split
  all_goals simp

theorem own {i : Instr} {f : State → Option State} (row : ownDo i = some f) (other : i ≠ .returnComplete)
    (d : f s = some t) : KeptBut k s t := by
  cases i <;> cases row
  case returnComplete => contradiction
  case sensePinChange j level time =>
    simp only [doSensePin] at d
    split at d <;> cases d
    exact of_same rfl rfl (polarity_setInput s j rfl)
  case senseDebouncedChange j =>
    have frame := doDebounced_frame d
    refine of_same (by rw [frame]) (by rw [frame]) ?_
    simp only [doDebounced] at d
    split at d <;> cases d
    intro i
    rw [debounceTo_sense]
    refine polarity_setInput (s.upTo _) j ?_ i
    rfl
  case interByteGapExpiry => rw [doGapExpiry_frame d]; exact of_eq rfl rfl rfl
  case recordOverrun => rw [doOverrun_frame d]; exact of_eq rfl rfl rfl
  case outgoingRecordEnd => rw [doRecordEnd_frame d]; exact of_eq rfl rfl rfl
  case unitSample => rw [doUnitSample_frame d]; exact of_eq rfl rfl rfl
  case falseStart => rw [doFalseStart_frame d]; exact of_eq rfl rfl rfl
  case characterCompletion => rw [doCharacterCompletion_frame d]; exact of_eq rfl rfl rfl
  case claimWithdrawn => rw [doClaimWithdrawn_frame d]; exact of_eq rfl rfl rfl
  case breakThresholdReached => rw [doBreakThreshold_frame d]; exact of_eq rfl rfl rfl
  case clearThresholdReached => rw [doClearThreshold_frame d]; exact of_eq rfl rfl rfl
  case callConfirmed => rw [doCallConfirmed_frame d]; exact of_eq rfl rfl rfl
  case originateTimeout => rw [doOriginateTimeout_frame d]; exact of_eq rfl rfl rfl
  case clearTimerExpiry => rw [doClearTimerExpiry_frame d]; exact of_eq rfl rfl rfl
  case characterBegin => rw [doCharacterBegin_frame d]; exact of_eq rfl rfl rfl
  case characterEnd => rw [doCharacterEnd_frame d]; exact of_eq rfl rfl rfl
  case breakBegin => rw [doBreakBegin_frame d]; exact of_eq rfl rfl rfl
  case breakEnd => rw [doBreakEnd_frame d]; exact of_eq rfl rfl rfl
  case repeatTimerExpiry => rw [doRepeat_frame d]; exact of_eq rfl rfl rfl
  case printTake => rw [doPrintTake_frame d]; exact of_eq rfl rfl rfl
  case wheelTravelBegin => rw [doWheelTravel_frame d]; exact of_eq rfl rfl rfl
  case printActionBegin => rw [doPrintAction_frame d]; exact of_eq rfl rfl rfl
  case implicitNewlineBegin => rw [doImplicitNewline_frame d]; exact of_eq rfl rfl rfl
  case implicitReturnBegin => rw [doImplicitReturn_frame d]; exact of_eq rfl rfl rfl
  case wheelStepEnd => rw [doWheelStep_frame d]; exact of_eq rfl rfl rfl
  case strikeComplete => rw [doStrikeComplete_frame d]; exact of_eq rfl rfl rfl
  case advanceComplete => rw [doAdvanceComplete_frame d]; exact of_eq rfl rfl rfl
  case lineFeedComplete => rw [doLineFeedComplete_frame d]; exact of_eq rfl rfl rfl
  case punchTake => rw [doPunchTake_frame d]; exact of_eq rfl rfl rfl
  case blankCycleBegin => rw [doBlankCycle_frame d]; exact of_eq rfl rfl rfl
  case punchActionBegin => rw [doPunchAction_frame d]; exact of_eq rfl rfl rfl
  case punchStepComplete => rw [doPunchStep_frame d]; exact of_eq rfl rfl rfl
  case motorRunupStart => rw [doRunupStart_frame d]; exact of_eq rfl rfl rfl
  case runupTimeout => rw [doRunupTimeout_frame d]; exact of_eq rfl rfl rfl
  case idleCountdownExpiry => rw [doIdleExpiry_frame d]; exact of_eq rfl rfl rfl
  case ringBegin => rw [doRingBegin_frame d]; exact of_eq rfl rfl rfl
  case ringEnd => rw [doRingEnd_frame d]; exact of_eq rfl rfl rfl
  case gapEnd => rw [doGapEnd_frame d]; exact of_eq rfl rfl rfl

/-! ## The records -/

theorem hostRecord {n : Nat} {act : State → Reply × State} (acts : ∀ s, KeptBut k s (act s).2) (s : State) :
    KeptBut k s (hostRecord n act s) := by
  have emptied : KeptBut k s (act (emptyBuffer s)).2 :=
    (of_eq (s := s) (t := emptyBuffer s) rfl rfl rfl).trans (acts (emptyBuffer s))
  unfold Machine.hostRecord
  split
  · exact of_eq rfl rfl rfl
  · split
    · unfold framingFault
      split <;> exact of_eq rfl rfl rfl
    · simp only [takeRecord]
      split
      · exact of_eq rfl rfl rfl
      · exact emptied.trans (of_eq rfl rfl rfl)

theorem effect (e : Effect s k t) : KeptBut k s t := by
  cases e with
  | none => exact refl s
  | lineSetup p =>
    simp only [doLineSetup]
    repeat' split
    any_goals exact refl s
    all_goals exact ⟨fun _ => rfl, fun _ => rfl, fun _ => rfl, fun _ => rfl, fun h => absurd rfl h, fun _ => rfl,
        fun _ => rfl, fun _ => rfl, fun _ => rfl, fun _ _ => rfl⟩
  | printerSetup p =>
    simp only [doPrinterSetup, putPrinterSetup]
    repeat' split
    any_goals exact refl s
    all_goals exact ⟨fun _ => rfl, fun _ => rfl, fun _ => rfl, fun _ => rfl, fun _ => rfl, fun h => absurd rfl h,
        fun _ => rfl, fun _ => rfl, fun _ => rfl, fun _ _ => rfl⟩
  | keyboardSetup p =>
    simp only [doKeyboardSetup]
    repeat' split
    any_goals exact refl s
    all_goals exact ⟨fun _ => rfl, fun _ => rfl, fun _ => rfl, fun _ => rfl, fun _ => rfl, fun _ => rfl,
        fun h => absurd rfl h, fun _ => rfl, fun _ => rfl, fun _ _ => rfl⟩
  | punchSetup p =>
    simp only [doPunchSetup]
    repeat' split
    any_goals exact refl s
    all_goals exact ⟨fun _ => rfl, fun _ => rfl, fun _ => rfl, fun _ => rfl, fun _ => rfl, fun _ => rfl, fun _ => rfl,
        fun h => absurd rfl h, fun _ => rfl, fun _ _ => rfl⟩
  | loadCodes p =>
    simp only [doLoadCodes]
    repeat' split
    any_goals exact refl s
    all_goals exact ⟨fun h => absurd rfl h, fun _ => rfl, fun _ => rfl, fun _ => rfl, fun _ => rfl, fun _ => rfl,
        fun _ => rfl, fun _ => rfl, fun _ => rfl, fun _ _ => rfl⟩
  | loadAnswerBack p =>
    simp only [doLoadAnswerBack]
    repeat' split
    any_goals exact refl s
    all_goals exact ⟨fun _ => rfl, fun _ => rfl, fun h => absurd rfl h, fun _ => rfl, fun _ => rfl, fun _ => rfl,
        fun _ => rfl, fun _ => rfl, fun _ => rfl, fun _ _ => rfl⟩
  | loadRefusalText p =>
    simp only [doLoadRefusalText]
    repeat' split
    any_goals exact refl s
    all_goals exact ⟨fun _ => rfl, fun _ => rfl, fun _ => rfl, fun h => absurd rfl h, fun _ => rfl, fun _ => rfl,
        fun _ => rfl, fun _ => rfl, fun _ => rfl, fun _ _ => rfl⟩
  | motorAndBellSetup p =>
    simp only [doMotorAndBellSetup]
    repeat' split
    any_goals exact refl s
    constructor <;> intro other
    case motor => exact absurd rfl other
    case polarity => exact absurd rfl other
    all_goals simp
  | loadKeys p =>
    simp only [doLoadKeys]
    repeat' split
    any_goals exact refl s
    constructor <;> intro other
    case keys => exact absurd rfl other
    all_goals simp [barReloaded, keepFeeding]
  | ringLayout p => rw [doRingLayout_frame]; exact of_eq rfl rfl rfl
  | setMode p => rw [doSetMode_frame]; exact of_eq rfl rfl rfl
  | answer => rw [doAnswer_frame]; exact of_eq rfl rfl rfl
  | originate => rw [doOriginate_frame]; exact of_eq rfl rfl rfl
  | clear => rw [doClear_frame]; exact of_eq rfl rfl rfl
  | breakSend => rw [doBreak_frame]; exact of_eq rfl rfl rfl
  | hereIs => rw [doHereIs_frame]; exact of_eq rfl rfl rfl
  | haltSend => rw [doHaltSend_frame]; exact of_eq rfl rfl rfl
  | resumeSend => rw [doResumeSend_frame]; exact of_eq rfl rfl rfl
  | cancelSend => rw [doCancelSend_frame]; exact of_eq rfl rfl rfl
  | printerStop => rw [doPrinterStop_frame]; exact of_eq rfl rfl rfl
  | printerResume => rw [doPrinterResume_frame]; exact of_eq rfl rfl rfl
  | punchStop => rw [doPunchStop_frame]; exact of_eq rfl rfl rfl
  | punchResume => rw [doPunchResume_frame]; exact of_eq rfl rfl rfl
  | punchFeed n => rw [doPunchFeed_frame]; exact of_eq rfl rfl rfl
  | motorRestart => rw [doMotorRestart_frame]; exact of_eq rfl rfl rfl
  | writeText p => rw [doWriteText_frame]; exact of_eq rfl rfl rfl
  | writeCodes p => rw [doWriteCodes_frame]; exact of_eq rfl rfl rfl
  | readTake c n => rw [doReadTake_frame]; exact of_eq rfl rfl rfl
  | moveReader c delta => rw [doMoveReader_frame]; exact of_eq rfl rfl rfl
  | attach c => rw [doAttach_frame]; exact of_eq rfl rfl rfl
  | detach c => rw [doDetach_frame]; exact of_eq rfl rfl rfl
  | statistics => rw [doStatistics_frame]; exact of_eq rfl rfl rfl
  | eventSetup p => rw [doEventSetup_frame]; exact of_eq rfl rfl rfl
  | eventClear p => rw [doEventClear_frame]; exact of_eq rfl rfl rfl
  | restart => rw [restartAll_frame]; exact of_eq rfl rfl rfl

/-! ## Every command -/

theorem exec {c : Instr} (d : exec c s = .next t) (noReset : ∀ r, c ≠ .powerOnReset r)
    (noByte : ∀ b n, c ≠ .hostByteReceived b n) (other : c ≠ .returnComplete) : KeptBut (kindOf c) s t := by
  have choice (u : State) (h : KeptBut (kindOf c) s u) (next : finish u = .next t) : KeptBut (kindOf c) s t := by
    cases next
    exact h.trans (chooseOutgoing u)
  have happens {o : Option State} {v : State} (base : KeptBut (kindOf c) s v)
      (kept : ∀ u, o = some u → KeptBut (kindOf c) s u) (next : happen o v = .next t) : KeptBut (kindOf c) s t := by
    cases o with
    | none => cases next; exact base
    | some u => exact choice u (kept u rfl) next
  have transition {o : Option State} (kept : ∀ u, o = some u → KeptBut (kindOf c) s u)
      (next : takeTransition o s = .next t) : KeptBut (kindOf c) s t := by
    unfold takeTransition at next
    split at next
    · exact happens (refl s) kept next
    · cases next
      exact of_eq rfl rfl rfl
  cases row c with
  | record r =>
    next k p =>
    have kind : kindOf c = k := by rw [kindOf, r]; rfl
    rw [exec_of_recordOf r] at d
    exact choice _ (by rw [kind]; exact hostRecord (fun u => effect (dispatch_effect k p u)) s) d
  | own r =>
    rw [exec_of_ownDo r] at d
    exact happens (refl s) (fun u run => own r other run) d
  | power rate => exact absurd rfl (noReset rate)
  | unknown k p =>
    by_cases known : k ∈ commandKinds
    · rw [show Machine.exec (.unknownKind k p) s = .next s from if_pos (by simpa using known)] at d
      cases d
      exact refl s
    · rw [exec_unknownKind known, funext (dispatch_of_unknown known p)] at d
      exact choice _ (hostRecord refl s) d
  | fault time =>
    have before : KeptBut (kindOf (.hostFramingFault time)) s (beforeByte time s) := by
      unfold beforeByte
      split
      · split
        · next run => exact (own (i := .interByteGapExpiry) rfl nofun run).trans (chooseOutgoing _)
        · exact refl s
      · exact refl s
    refine choice _ (before.trans ?_) d
    unfold framingFault
    split <;> exact of_eq rfl rfl rfl
  | byte b time => exact absurd rfl (noByte b time)
  | falls time => exact transition (fun u run => by rw [doMarkToSpace_frame run]; exact of_eq rfl rfl rfl) d
  | rises time => exact transition (fun u run => by rw [doSpaceToMark_frame run]; exact of_eq rfl rfl rfl) d
  | key k closed => exact choice _ (by rw [readKeyNow_frame]; exact of_eq rfl rfl rfl) d

end KeptBut

/-- The rows that load a table or set a group of values, by the kinds of their records (R190). -/
theorem row_of_kind (c : Instr) :
    (kindOf c = 0x20 → ∃ p, c = .loadCodes p) ∧ (kindOf c = 0x21 → ∃ p, c = .loadKeys p)
    ∧ (kindOf c = 0x22 → ∃ p, c = .loadAnswerBack p) ∧ (kindOf c = 0x23 → ∃ p, c = .loadRefusalText p)
    ∧ (kindOf c = 0x10 → ∃ p, c = .lineSetup p) ∧ (kindOf c = 0x12 → ∃ p, c = .keyboardSetup p)
    ∧ (kindOf c = 0x13 → ∃ p, c = .punchSetup p) ∧ (kindOf c = 0x14 → ∃ p, c = .motorAndBellSetup p)
    ∧ (kindOf c = 0x11 → ∃ p, c = .printerSetup p) := by
  refine ⟨fun h => ?_, fun h => ?_, fun h => ?_, fun h => ?_, fun h => ?_, fun h => ?_, fun h => ?_, fun h => ?_,
    fun h => ?_⟩ <;>
  · have kind := congrArg BitVec.toNat h
    cases c <;> first | exact ⟨_, rfl⟩ | cases kind

/-- At the completion of a return only a waiting width may be put in force (R127). -/
theorem doReturnComplete_kept {s t : State} (d : doReturnComplete s = some t) :
    t.tables = s.tables ∧ t.sense = s.sense
    ∧ t.setup = { s.setup with printer := { s.setup.printer with width := t.setup.printer.width } } := by
  have frame := doReturnComplete_frame d
  refine ⟨by rw [frame], by rw [frame], ?_⟩
  simp only [doReturnComplete] at d
  split at d <;> cases d
  rw [carriageHomeCheck_frame]
  unfold putWaitingWidth
  split <;> rfl

/-- Settles O3: `KeptBut.exec` for every command but the completion of a return, which is
`doReturnComplete_kept`. -/
theorem tablesAndSetupsKept : Obligations.TablesAndSetupsKept := by
  unfold Obligations.TablesAndSetupsKept
  intro c s t d noReset noByte
  by_cases completion : c = .returnComplete
  · subst completion
    obtain ⟨tables, setup, polarity⟩ : t.tables = s.tables
        ∧ t.setup = { s.setup with printer := { s.setup.printer with width := t.setup.printer.width } }
        ∧ ∀ k : Fin 6, t.sense[k].assertedLow = s.sense[k].assertedLow := by
      cases run : doReturnComplete s with
      | none =>
        have same : t = s := by
          have next : happen (doReturnComplete s) s = .next t := d
          rw [run] at next
          exact (Host.Outcome.next.inj next).symm
        rw [same]
        exact ⟨rfl, rfl, fun _ => rfl⟩
      | some u =>
        have next : t = chooseOutgoing u := by
          have next : happen (doReturnComplete s) s = .next t := d
          rw [run] at next
          exact (Host.Outcome.next.inj next).symm
        obtain ⟨tables, sense, setup⟩ := doReturnComplete_kept run
        have polarity := (KeptBut.chooseOutgoing (k := 0) u).polarity (by decide)
        rw [sense] at polarity
        rw [next]
        exact ⟨by simp [tables], by simpa using setup, polarity⟩
    refine ⟨fun _ => ?_, fun _ => ?_, fun _ => ?_, fun _ => ?_, fun _ => ?_, fun _ => ?_, fun _ => ?_,
      fun _ => ⟨?_, polarity⟩, fun _ h => absurd rfl h, fun _ => ?_⟩
    all_goals first | rw [tables] | rw [setup]
  · have kept := KeptBut.exec d noReset noByte completion
    obtain ⟨codes, keys, answerBack, refusal, line, keyboard, punch, motor, printer⟩ := row_of_kind c
    have isNot {k : Byte} {f : List Byte → Instr} (h : ∀ p, c ≠ f p) (row : kindOf c = k → ∃ p, c = f p) :
        kindOf c ≠ k := fun eq => by
      obtain ⟨p, same⟩ := row eq
      exact h p same
    refine ⟨fun h => kept.codes (isNot h codes), fun h => kept.keys (isNot h keys),
      fun h => kept.answerBack (isNot h answerBack), fun h => kept.refusal (isNot h refusal),
      fun h => kept.line (isNot h line), fun h => kept.keyboard (isNot h keyboard),
      fun h => kept.punch (isNot h punch),
      fun h => ⟨kept.motor (isNot h motor), kept.polarity (isNot h motor)⟩,
      fun h _ => kept.printer (isNot h printer), fun h => ?_⟩
    rw [kept.printer (isNot h printer)]

end Sys2Proof.Machine
end

section
/-! SUPPORT. What the operations that commands, keys and inputs share make of the state, in the terms of the claims:
halts and returns of the engines (R18, R101, R144, R161), the exchange of cursors at a change of mode and source (R9,
R10, R119), the entries of the connection controller and of motor control (R78 to R80, R169 to R173), and keystrokes
(R117, R118). -/

namespace Sys2Proof.Machine

/-! ## The halt flag and answer-back requests (R95, R101) -/

theorem haltSending_eq (why : HaltReason) (s : State) : haltSending why s = haltedFor why s := by
  unfold haltSending haltedFor
  cases halt : s.transmitter.halt with
  | none =>
    rw [if_pos rfl, raise_eq]
    rfl
  | some earlier => rfl

theorem requestFate_of_empty {s : State} (h : s.tables.answerBack = []) : requestFate s = 2 := if_pos h

theorem requestFate_of_held {s : State} (record : s.tables.answerBack ≠ []) (free : s.transmitter.sequencer = .empty) :
    requestFate s = 0 := by
  simp [requestFate, record, free]

theorem requestFate_of_dropped {s : State} (record : s.tables.answerBack ≠ [])
    (busy : s.transmitter.sequencer ≠ .empty) : requestFate s = 1 := by
  simp [requestFate, record, busy]

theorem requestAnswerBack_of_empty {s : State} (wru : Bool) (h : s.tables.answerBack = []) :
    requestAnswerBack wru s = s := by
  simp only [requestAnswerBack, requestFate_of_empty h]

theorem requestAnswerBack_of_held {s : State} (wru : Bool) (record : s.tables.answerBack ≠ [])
    (free : s.transmitter.sequencer = .empty) :
    requestAnswerBack wru s = { s with transmitter := { s.transmitter with sequencer := .request wru } } := by
  simp only [requestAnswerBack, requestFate_of_held record free]
  rfl

theorem requestAnswerBack_of_dropped {s : State} (wru : Bool) (record : s.tables.answerBack ≠ [])
    (busy : s.transmitter.sequencer ≠ .empty) :
    requestAnswerBack wru s =
      { s with transmitter := { s.transmitter with dropped := min 65535 (s.transmitter.dropped + 1) } } := by
  simp only [requestAnswerBack, requestFate_of_dropped record busy]
  rfl

/-! ## Returns and halts of the engines (R18, R144, R161) -/

theorem returnEntry_eq (h : Held) (s : State) : returnEntry h s = returned h s := by
  unfold returnEntry returned
  split
  · rfl
  · refine if_congr Nat.succ_le_iff rfl ?_
    rw [raise_eq]
    rfl

/-- A return moves one cursor and perhaps the event table. -/
theorem returned_frame (h : Held) (s : State) :
    returned h s = { s with store := (returned h s).store, events := (returned h s).events } := by
  unfold returned
  split
  · rfl
  · split <;> rfl

/-- The print slot emptied by a return. -/
def printerReturned (s : State) : State :=
  match s.printer.held with
  | none => s
  | some h => { returned h s with printer := { s.printer with held := none } }

/-- The punch slot emptied by a return. -/
def punchReturned (s : State) : State :=
  match s.punch.held with
  | none => s
  | some h => { returned h s with punch := { s.punch with held := none } }

theorem returnPrinterHeld_eq (s : State) : returnPrinterHeld s = printerReturned s := by
  unfold returnPrinterHeld printerReturned
  cases s.printer.held with
  | none => rfl
  | some h => simp only [returnEntry_eq]; rfl

theorem returnPunchHeld_eq (s : State) : returnPunchHeld s = punchReturned s := by
  unfold returnPunchHeld punchReturned
  cases s.punch.held with
  | none => rfl
  | some h => simp only [returnEntry_eq]; rfl

theorem printerReturned_frame (s : State) :
    printerReturned s =
      { s with
        store := (printerReturned s).store
        events := (printerReturned s).events
        printer := { s.printer with held := none } } := by
  unfold printerReturned
  cases held : s.printer.held with
  | none =>
    have same : { s.printer with held := none } = s.printer := by rw [← held]
    rw [same]
  | some h =>
    simp only
    rw [returned_frame]

theorem punchReturned_frame (s : State) :
    punchReturned s =
      { s with
        store := (punchReturned s).store
        events := (punchReturned s).events
        punch := { s.punch with held := none } } := by
  unfold punchReturned
  cases held : s.punch.held with
  | none =>
    have same : { s.punch with held := none } = s.punch := by rw [← held]
    rw [same]
  | some h =>
    simp only
    rw [returned_frame]

theorem printerReturned_modes (s : State) : (printerReturned s).modes = s.modes := by rw [printerReturned_frame]

theorem punchReturned_modes (s : State) : (punchReturned s).modes = s.modes := by rw [punchReturned_frame]

theorem haltPrinter_eq (set : PrinterHalts → PrinterHalts) (s : State) :
    haltPrinter set s =
      { printerHalted s with
        printer := { (printerHalted s).printer with halts := set (printerHalted s).printer.halts } } := by
  have same : (if s.printer.halts.any then s else returnPrinterHeld s) = printerHalted s := by
    rw [returnPrinterHeld_eq]
    unfold printerHalted printerReturned
    cases s.printer.held with
    | none => simp
    | some h => rfl
  unfold haltPrinter
  rw [same]
  rfl

theorem haltPunch_eq (set : PunchHalts → PunchHalts) (s : State) :
    haltPunch set s =
      { punchHalted s with
        punch := { (punchHalted s).punch with halts := set (punchHalted s).punch.halts } } := by
  have same : (if s.punch.halts.any then s else returnPunchHeld s) = punchHalted s := by
    rw [returnPunchHeld_eq]
    unfold punchHalted punchReturned
    cases s.punch.held with
    | none => simp
    | some h => rfl
  unfold haltPunch
  rw [same]
  rfl

/-! ## Changes of station mode and punch source (R9, R10, R119, R120, R151) -/

theorem attachCursor_eq (c : CursorId) (s : State) : attachCursor c s = cursorJoined c s := by
  unfold attachCursor cursorJoined
  split
  · rfl
  · by_cases within : unread s c ≤ (s.ring c.ring).len
    · simp only [if_pos within, if_neg (Nat.not_lt.2 within)]
    · simp only [if_neg within, if_pos (Nat.lt_of_not_le within), lapCursor, raise_eq]
      cases c <;> rfl

theorem detachCursor_eq (c : CursorId) (s : State) : detachCursor c s = cursorLeft c s := rfl

theorem cursorJoined_frame (c : CursorId) (s : State) :
    cursorJoined c s = { s with store := (cursorJoined c s).store, events := (cursorJoined c s).events } := by
  unfold cursorJoined
  simp only
  split
  · rfl
  · split <;> rfl

/-- The ring that keystrokes of a station mode go into (R117, R120). -/
def StationMode.destination : StationMode → RingId
  | .online => .send
  | .localMode => .loc

theorem destination_eq (s : State) : destination s = s.modes.station.destination := rfl

theorem cursorJoined_modes (c : CursorId) (s : State) : (cursorJoined c s).modes = s.modes := by
  rw [cursorJoined_frame]

theorem cursorJoined_keyboard (c : CursorId) (s : State) : (cursorJoined c s).keyboard = s.keyboard := by
  rw [cursorJoined_frame]

/-- A change to another station mode, by the names of the cursors and the ring of each mode. -/
theorem stationChanged_of_ne {m : StationMode} {s : State} (other : s.modes.station ≠ m) :
    stationChanged m s =
      lockTested m.destination
        { cursorJoined m.cursor (cursorLeft s.modes.station.cursor (printerReturned s)) with
          modes := { s.modes with station := m } } := by
  unfold stationChanged
  rw [if_neg other]
  cases old : s.modes.station <;> cases m
  case online.localMode => rfl
  case localMode.online => rfl
  all_goals exact absurd old other

theorem stationChanged_of_eq {m : StationMode} {s : State} (same : s.modes.station = m) : stationChanged m s = s :=
  if_pos same

theorem changeStation_eq (m : StationMode) (s : State) : changeStation m s = stationChanged m s := by
  by_cases same : s.modes.station = m
  · rw [stationChanged_of_eq same]
    exact if_pos same
  have kept : (cursorJoined m.cursor (cursorLeft s.modes.station.cursor (printerReturned s))).modes = s.modes := by
    rw [cursorJoined_modes]
    exact printerReturned_modes s
  rw [stationChanged_of_ne same]
  unfold changeStation
  rw [if_neg same]
  simp only [returnPrinterHeld_eq, attachCursor_eq, detachCursor_eq, testLock_eq, destination_eq, kept]
  rfl

/-- The cursor of the source in force left; `leaveSource_eq` ties it to the model. -/
def sourceLeft (c : Option CursorId) (s : State) : State :=
  match c with
  | none => s
  | some c => if s.modes.station.destination = c.ring then lockTested c.ring (cursorLeft c s) else cursorLeft c s

theorem leaveSource_eq (c : Option CursorId) (s : State) : leaveSource c s = sourceLeft c s := by
  cases c with
  | none => rfl
  | some c =>
    unfold leaveSource sourceLeft testLockOn
    simp only [detachCursor_eq, testLock_eq]
    by_cases mine : s.modes.station.destination = c.ring
    · have named : destination (cursorLeft c s) = c.ring := mine
      rw [if_pos mine, if_pos named, named]
    · exact (if_neg mine).trans (if_neg mine).symm

/-- The cursor of a source joined; `joinSource_eq` ties it to the model. -/
def sourceJoined (c : Option CursorId) (s : State) : State :=
  match c with
  | none => s
  | some c => cursorJoined c s

theorem joinSource_eq (c : Option CursorId) (s : State) : joinSource c s = sourceJoined c s := by
  cases c with
  | none => rfl
  | some c => exact attachCursor_eq c s

theorem sourceLeft_modes (c : Option CursorId) (s : State) : (sourceLeft c s).modes = s.modes := by
  cases c with
  | none => rfl
  | some c =>
    unfold sourceLeft
    simp only
    split <;> rfl

theorem sourceJoined_modes (c : Option CursorId) (s : State) : (sourceJoined c s).modes = s.modes := by
  cases c with
  | none => rfl
  | some c => exact cursorJoined_modes c s

/-- A change to another source, by the names of the cursors of each source. -/
theorem sourceChanged_of_ne {source : PunchSource} {s : State} (other : s.modes.source ≠ source) :
    sourceChanged source s =
      let t := sourceJoined source.cursor (sourceLeft s.modes.source.cursor (punchReturned s))
      { t with
        modes := { s.modes with source := source }
        punch := { t.punch with runCount := 0, eraseDepth := 0 } } := by
  have station : (punchReturned s).modes.station = s.modes.station := by rw [punchReturned_frame]
  have left : sourceLeft s.modes.source.cursor (punchReturned s) =
      match s.modes.source with
      | .off => punchReturned s
      | .traffic => cursorLeft .punchT (punchReturned s)
      | .loc =>
        if s.modes.station = .localMode then lockTested .loc (cursorLeft .punchL (punchReturned s))
        else cursorLeft .punchL (punchReturned s) := by
    cases s.modes.source with
    | off => rfl
    | traffic =>
      unfold sourceLeft
      simp only [PunchSource.cursor, station]
      cases s.modes.station <;> rfl
    | loc =>
      unfold sourceLeft
      simp only [PunchSource.cursor, station]
      cases s.modes.station <;> rfl
  rw [left]
  unfold sourceChanged
  rw [if_neg other]
  cases source <;> cases s.modes.source <;> rfl

theorem sourceChanged_of_eq {source : PunchSource} {s : State} (same : s.modes.source = source) :
    sourceChanged source s = s :=
  if_pos same

theorem changeSource_eq (source : PunchSource) (s : State) : changeSource source s = sourceChanged source s := by
  by_cases same : s.modes.source = source
  · rw [sourceChanged_of_eq same]
    exact if_pos same
  have kept : (sourceJoined source.cursor (sourceLeft s.modes.source.cursor (punchReturned s))).modes = s.modes := by
    rw [sourceJoined_modes, sourceLeft_modes]
    exact punchReturned_modes s
  rw [sourceChanged_of_ne same]
  unfold changeSource
  rw [if_neg same]
  simp only [returnPunchHeld_eq, leaveSource_eq, joinSource_eq, kept]
  rfl

/-! ## The entries of the connection controller (R78 to R80) -/

/-- A run past the break threshold is noted so at the entry to ESTABLISHED (R64; log 23). -/
def breakNoted (s : State) : Option SpacingRun :=
  s.receiver.run.map fun r =>
    { r with breakDone :=
        r.breakDone || decide (r.start + s.setup.line.breakUnits * s.setup.line.unitLength < s.now) }

theorem markBreakPassed_eq (s : State) :
    markBreakPassed s = { s with receiver := { s.receiver with run := breakNoted s } } := by
  unfold markBreakPassed breakNoted
  cases run : s.receiver.run with
  | none =>
    have same : { s.receiver with run := none } = s.receiver := by rw [← run]
    simp only [Option.map_none, same]
  | some r =>
    have same : { s.receiver with run := some r } = s.receiver := by rw [← run]
    by_cases passed : r.start + s.setup.line.breakThreshold < s.now
    · have noted : decide (r.start + s.setup.line.breakUnits * s.setup.line.unitLength < s.now) = true :=
        decide_eq_true passed
      simp only [passed, if_true, Option.map_some, noted, Bool.or_true]
      rfl
    · have noted : decide (r.start + s.setup.line.breakUnits * s.setup.line.unitLength < s.now) = false :=
        decide_eq_false passed
      simp only [passed, if_false, Option.map_some, noted, Bool.or_false, same]

theorem enterEstablished_eq (s : State) : enterEstablished s = established s := by
  unfold enterEstablished established
  simp only [raise_eq, markBreakPassed_eq]
  by_cases asks : s.controller.callKind = some .answered ∧ s.modes.answerOnEstablish = true
      ∧ s.tables.answerBack ≠ []
  · rw [if_pos (by exact asks)]
    by_cases free : s.transmitter.sequencer = .empty
    · rw [requestAnswerBack_of_held _ (by exact asks.2.2) (by exact free)]
      rw [if_pos ⟨asks, free⟩, if_neg (fun h => h.2 free)]
      rfl
    · rw [requestAnswerBack_of_dropped _ (by exact asks.2.2) (by exact free)]
      rw [if_neg (fun h => free h.2), if_pos ⟨asks, free⟩]
      rfl
  · rw [if_neg (by exact asks)]
    rw [if_neg (fun h => asks h.1), if_neg (fun h => asks h.1)]
    rfl

theorem enterRefusing_eq (s : State) : enterRefusing (lettersPlanes s) = turnedAway s := by
  unfold enterRefusing turnedAway
  simp only [enterClearing_eq]
  cases codes : s.tables.answerBack ++ s.tables.refusal with
  | nil =>
    have none_held : (setLine .refusing (lettersPlanes s)).tables.answerBack
        ++ (setLine .refusing (lettersPlanes s)).tables.refusal = [] := codes
    simp only [none_held, if_true]
    rfl
  | cons c cs =>
    have held : (setLine .refusing (lettersPlanes s)).tables.answerBack
        ++ (setLine .refusing (lettersPlanes s)).tables.refusal = c :: cs := codes
    simp only [held, reduceCtorEq, if_false]
    rfl

theorem wakingFault_eq (s : State) :
    wakingFault s = if s.controller.callKind = some .answered then turnedAway s else cleared s := by
  unfold wakingFault
  rw [enterRefusing_eq, enterClearing_eq]

/-! ## Motor control (R155, R168 to R171) -/

/-- The punch after a step that waited for the motor has begun (R155). -/
def stepResumed (s : State) : Punch :=
  match s.punch.work with
  | some { step := step, ends := none, rest := rest } =>
    { s.punch with work := some { step := step, ends := some (s.now + step.time), rest := rest } }
  | _ => s.punch

/-- A second load at the same instant changes nothing. -/
theorem idleLoaded_idleLoaded (p : Punch) (s : State) :
    idleLoaded { s with motor := idleLoaded s, punch := p } = idleLoaded s := by
  simp only [idleLoaded_eq]
  by_cases runs : s.motor.state = .running
  · simp only [runs, if_true]
  · simp only [runs, if_false]

/-- The step that waited loads the idle countdown once more, to what it was loaded to. -/
theorem resumePunchStep_loadIdle (s : State) :
    resumePunchStep (loadIdle s) = { s with motor := idleLoaded s, punch := stepResumed s } := by
  rw [loadIdle_loaded]
  unfold resumePunchStep stepResumed
  simp only
  rcases s.punch.work with _ | ⟨step, _ | ends, rest⟩
  · rfl
  · simp only
    rw [loadIdle_loaded]
    let p : Punch := { s.punch with work := some ⟨step, some (s.now + step.time), rest⟩ }
    exact congrArg (fun m => { s with motor := m, punch := p }) (idleLoaded_idleLoaded p s)
  · rfl

theorem enterRunning_eq (s : State) : enterRunning s = running s := by
  unfold enterRunning running
  simp only [resumePunchStep_loadIdle, enterEstablished_eq]
  rfl

theorem beginRunup_eq (s : State) : beginRunup s = runningUp s := by
  unfold beginRunup runningUp
  simp only [enterRunning_eq]
  rfl

theorem enterFault_eq (s : State) : enterFault s = faulted s := by
  unfold enterFault faulted
  simp only [raise_eq, wakingFault_eq]
  rfl

/-! ## Keystrokes (R117, R118) -/

theorem lockKeyboard_eq (s : State) : lockKeyboard s = lockedOut s := by
  unfold lockKeyboard lockedOut
  rw [raise_eq]
  rfl

theorem strikeCode_eq (c : Code) (need : Option Plane) (s : State) : strikeCode c need s = typed c need s := by
  cases text : putChar (destination s) .keyboard need c s with
  | some t => simp only [strikeCode, typed, text]
  | none => simp only [strikeCode, typed, text, lockKeyboard_eq]

theorem strikeErase_eq (s : State) : strikeErase s = rubbedOut s := by
  have origin : textOrigin (destination s) .keyboard = if s.modes.station = .localMode then some .keyboard else none := by
    rw [destination_eq]
    cases s.modes.station <;> rfl
  unfold strikeErase rubbedOut
  rw [lockKeyboard_eq, origin]

end Sys2Proof.Machine
end

section
/-! The actions of the transmitter and of the engines (R87, R101 to R105, R144, R146, R161, R164), and the claims O26,
O27 and O28. -/

namespace Sys2Proof.Machine

/-! ## HALT SEND and RESUME SEND (R103) -/

theorem haltedFor_of_clear {why : HaltReason} {s : State} (clear : s.transmitter.halt = none) :
    haltedFor why s =
      { s with
        transmitter := { s.transmitter with halt := some why }
        events := occurs 6 (some why.value) s } :=
  if_pos clear

theorem haltedFor_of_set {why earlier : HaltReason} {s : State} (set : s.transmitter.halt = some earlier) :
    haltedFor why s = s :=
  if_neg (by simp [set])

/-- A line action that is taken answers with the line state and the halt reason that it leaves (R194). -/
theorem answers_lineReply {c : Instr} {act : State → Reply × State} {s t : State} {result : Nat}
    (run : exec c s = finish (hostRecord 1 act s)) (taken : CommandTaken s)
    (acts : act (emptyBuffer s) = lineReply result (t.setLink (emptyBuffer s).link)) (now : t.now = s.now) :
    Answers c s 0xB1 ([0, t.controller.state.value, haltValue t.transmitter.halt] ++ be2 result) t :=
  answers_of_act run taken (by decide) acts now

/-- Settles O26: the halt flag clear or set, by `haltSending_eq`. -/
theorem haltAndResumeSend : Obligations.HaltAndResumeSend := by
  unfold Obligations.HaltAndResumeSend
  intro s taken
  have runHalt : exec .haltSend s = finish (hostRecord 1 doHaltSend s) := rfl
  have runResume : exec .resumeSend s = finish (hostRecord 1 doResumeSend s) := rfl
  have halts : doHaltSend (emptyBuffer s) = lineReply 0 (haltedFor .host (emptyBuffer s)) := by
    rw [← haltSending_eq]
    rfl
  refine ⟨fun clear => ?_, fun why set => ?_, ?_⟩
  · rw [haltedFor_of_clear (s := emptyBuffer s) clear] at halts
    exact answers_lineReply runHalt taken halts rfl
  · rw [haltedFor_of_set (s := emptyBuffer s) set] at halts
    have answers := answers_lineReply (t := s) runHalt taken halts rfl
    rw [set] at answers
    exact answers
  · exact answers_lineReply runResume taken rfl rfl

/-! ## CANCEL SEND (R104) -/

/-- The unread text of SEND discarded, and the writer plane back to that of the stream. -/
def textCancelled (s : State) : State :=
  { s with
    store :=
      { s.store with
        sendPlane := s.transmitter.streamPlane
        cursors := { s.store.cursors with xmit := { s.store.cursors.xmit with r := s.store.rings.send.w } } }
    keyboard := { s.keyboard with locked := s.keyboard.locked && s.modes.station == .localMode } }

/-- With nothing unread the whole of SEND is free, and a keyboard that types into it is freed. -/
theorem cancelText_eq {s : State} (room : 8 ≤ (s.ring .send).len) : cancelText s = textCancelled s := by
  let u : State := setWriterPlane .send s.transmitter.streamPlane (setUnread .xmit 0 s)
  have moved : u = { textCancelled s with keyboard := s.keyboard } := by
    simp only [u, setUnread, State.setCursor, State.setStore, setWriterPlane, textCancelled, Cursors.set,
      BitVec.sub_zero]
    rfl
  have read : unread u .xmit = 0 := unread_setUnread_same .xmit (n := 0) s (by decide)
  have free : 8 ≤ freeSpace u .send := by
    have none_held : maxUnread u .send = 0 := by simp [maxUnread, holding, read]
    have len : (u.ring .send).len = (s.ring .send).len := rfl
    simp only [freeSpace, none_held, len]
    omega
  have tests : cancelText s = testLockOn .send u := rfl
  rw [tests]
  unfold testLockOn
  cases station : s.modes.station with
  | online =>
    have mine : destination u = .send := by
      rw [destination_eq]
      exact congrArg StationMode.destination station
    rw [if_pos mine, testLock_of_free u (by rw [mine]; exact free), moved]
    have freed : (s.keyboard.locked && s.modes.station == .localMode) = false := by simp [station]
    simp only [textCancelled, freed]
    rfl
  | localMode =>
    have other : destination u ≠ .send := by
      rw [destination_eq]
      have : u.modes.station = .localMode := station
      rw [this]
      nofun
    rw [if_neg other, moved]
    simp [textCancelled, station]

/-! ## HERE_IS and BREAK (R95, R104, R105) -/

theorem doHereIs_of_established {s : State} (line : s.controller.state = .established) :
    doHereIs s = lineReply (requestFate s) (requestAnswerBack false s) :=
  if_pos line

theorem doBreak_of_established {s : State} (line : s.controller.state = .established) :
    doBreak s = lineReply 0 (requestBreak s) :=
  if_pos line

theorem requestBreak_of_breaking {s : State} {ends : Nat} (h : s.transmitter.state = .breaking ends) :
    requestBreak s = s :=
  if_pos (by rw [h]; rfl)

theorem requestBreak_of_not_breaking {s : State} (h : ∀ ends, s.transmitter.state ≠ .breaking ends) :
    requestBreak s = { s with transmitter := { s.transmitter with breakPending := true } } := by
  refine if_neg ?_
  cases tx : s.transmitter.state with
  | breaking ends => exact absurd tx (h ends)
  | _ => nofun

/-- Settles O27: CANCEL SEND by `cancelText_eq`; HERE_IS by the three fates of a request; BREAK by whether one is
being sent. -/
theorem cancelHereIsAndBreak : Obligations.CancelHereIsAndBreak := by
  unfold Obligations.CancelHereIsAndBreak
  intro s taken
  let e := emptyBuffer s
  have runCancel : exec .cancelSend s = finish (hostRecord 1 doCancelSend s) := rfl
  have runHereIs : exec .hereIs s = finish (hostRecord 1 doHereIs s) := rfl
  have runBreak : exec .breakSend s = finish (hostRecord 1 doBreak s) := rfl
  refine ⟨fun room => ?_, fun elsewhere => ?_, fun line => ?_, fun elsewhere => ?_, fun line => ?_⟩
  · have acts : doCancelSend e = lineReply (unread s .xmit) (textCancelled e) := by
      rw [← cancelText_eq (s := e) room]
      rfl
    exact answers_lineReply (t := textCancelled s) runCancel taken acts rfl
  · exact refuses_of_act (kind := 0x31) runHereIs taken (by decide) (if_neg elsewhere)
  · have acts := doHereIs_of_established (s := e) line
    refine ⟨fun empty => ?_, fun record free => ?_, fun record busy => ?_⟩
    · rw [requestFate_of_empty (s := e) empty, requestAnswerBack_of_empty (s := e) false empty] at acts
      have answers := answers_lineReply (t := s) runHereIs taken acts rfl
      rw [line] at answers
      exact answers
    · rw [requestFate_of_held (s := e) record free, requestAnswerBack_of_held (s := e) false record free] at acts
      have answers := answers_lineReply
        (t := { s with transmitter := { s.transmitter with sequencer := .request false } }) runHereIs taken acts rfl
      simp only [line] at answers
      exact answers
    · rw [requestFate_of_dropped (s := e) record busy, requestAnswerBack_of_dropped (s := e) false record busy] at acts
      have answers := answers_lineReply
        (t := { s with transmitter := { s.transmitter with dropped := min 65535 (s.transmitter.dropped + 1) } })
        runHereIs taken acts rfl
      simp only [line] at answers
      exact answers
  · exact refuses_of_act (kind := 0x31) runBreak taken (by decide) (if_neg elsewhere)
  · have acts := doBreak_of_established (s := e) line
    refine ⟨fun ends breaking => ?_, fun quiet => ?_⟩
    · rw [requestBreak_of_breaking (s := e) breaking] at acts
      have answers := answers_lineReply (t := s) runBreak taken acts rfl
      rw [line] at answers
      exact answers
    · rw [requestBreak_of_not_breaking (s := e) quiet] at acts
      have answers := answers_lineReply
        (t := { s with transmitter := { s.transmitter with breakPending := true } }) runBreak taken acts rfl
      simp only [line] at answers
      exact answers

/-! ## STOP, RESUME and FEED (R146, R164) -/

theorem returned_of_moved {h : Held} {s : State} (moved : h.moved = true) : returned h s = s := if_pos moved

theorem returned_of_within {h : Held} {s : State} (stands : ¬ h.moved = true)
    (within : unread s h.cursor < (s.ring h.cursor.ring).len) :
    returned h s = s.setCursor h.cursor { s.cursor h.cursor with r := (s.cursor h.cursor).r - 1 } :=
  (if_neg stands).trans (if_pos within)

theorem returned_of_lapped {h : Held} {s : State} (stands : ¬ h.moved = true)
    (lapped : ¬ unread s h.cursor < (s.ring h.cursor.ring).len) :
    returned h s =
      { s.setCursor h.cursor { s.cursor h.cursor with lost := min 65535 ((s.cursor h.cursor).lost + 1) } with
        events := occurs 7 (some (byte h.cursor.number)) s } :=
  (if_neg stands).trans (if_neg lapped)

/-- A return looks at the store alone, and leaves the engines, the connection controller and the link alone. -/
theorem returned_setOthers (h : Held) (p : Printer) (q : Punch) (k : Controller) (l : Link) (s : State) :
    returned h { s with printer := p, punch := q, controller := k, link := l } =
      { returned h s with printer := p, punch := q, controller := k, link := l } := by
  by_cases moved : h.moved = true
  · rw [returned_of_moved moved, returned_of_moved moved]
  by_cases within : unread s h.cursor < (s.ring h.cursor.ring).len
  · rw [returned_of_within (s := s) moved within, returned_of_within moved (by exact within)]
    rfl
  · rw [returned_of_lapped (s := s) moved within, returned_of_lapped moved (by exact within)]
    rfl

theorem returned_setPrinter (h : Held) (p : Printer) (s : State) :
    returned h (s.setPrinter p) = (returned h s).setPrinter p := by
  refine (returned_setOthers h p s.punch s.controller s.link s).trans ?_
  rw [returned_frame h s]
  rfl

theorem returned_setPunch (h : Held) (q : Punch) (s : State) :
    returned h (s.setPunch q) = (returned h s).setPunch q := by
  refine (returned_setOthers h s.printer q s.controller s.link s).trans ?_
  rw [returned_frame h s]
  rfl

theorem returned_setLink (h : Held) (l : Link) (s : State) :
    returned h (s.setLink l) = (returned h s).setLink l := by
  refine (returned_setOthers h s.printer s.punch s.controller l s).trans ?_
  rw [returned_frame h s]
  rfl

/-- The same state under another connection controller and another link. -/
def State.under (k : Controller) (l : Link) (s : State) : State := { s with controller := k, link := l }

theorem returned_under (h : Held) (k : Controller) (l : Link) (s : State) :
    returned h (s.under k l) = (returned h s).under k l := by
  refine (returned_setOthers h s.printer s.punch k l s).trans ?_
  rw [returned_frame h s]
  rfl

theorem printerHalted_of_idle {s : State} (h : s.printer.halts.any = true ∨ s.printer.held = none) :
    printerHalted s = s := by
  unfold printerHalted
  cases held : s.printer.held with
  | none => rfl
  | some x =>
    rw [held] at h
    exact if_pos (h.resolve_right nofun)

theorem printerHalted_of_held {s : State} {h : Held} (going : s.printer.halts.any = false)
    (held : s.printer.held = some h) :
    printerHalted s = (returned h s).setPrinter { s.printer with held := none } := by
  simp [printerHalted, going, held, State.setPrinter]

theorem punchHalted_of_idle {s : State} (h : s.punch.halts.any = true ∨ s.punch.held = none) :
    punchHalted s = s := by
  unfold punchHalted
  cases held : s.punch.held with
  | none => rfl
  | some x =>
    rw [held] at h
    exact if_pos (h.resolve_right nofun)

theorem punchHalted_of_held {s : State} {h : Held} (going : s.punch.halts.any = false)
    (held : s.punch.held = some h) :
    punchHalted s = (returned h s).setPunch { s.punch with held := none } := by
  simp [punchHalted, going, held, State.setPunch]

theorem haltPrinter_of_idle {set : PrinterHalts → PrinterHalts} {s : State}
    (h : s.printer.halts.any = true ∨ s.printer.held = none) :
    haltPrinter set s = s.setPrinter { s.printer with halts := set s.printer.halts } := by
  rw [haltPrinter_eq, printerHalted_of_idle h]
  rfl

theorem haltPrinter_of_held {set : PrinterHalts → PrinterHalts} {s : State} {h : Held}
    (going : s.printer.halts.any = false) (held : s.printer.held = some h) :
    haltPrinter set s =
      returned h (s.setPrinter { s.printer with held := none, halts := set s.printer.halts }) := by
  rw [haltPrinter_eq, printerHalted_of_held going held, returned_setPrinter]
  rfl

theorem haltPunch_of_idle {set : PunchHalts → PunchHalts} {s : State}
    (h : s.punch.halts.any = true ∨ s.punch.held = none) :
    haltPunch set s = s.setPunch { s.punch with halts := set s.punch.halts } := by
  rw [haltPunch_eq, punchHalted_of_idle h]
  rfl

theorem haltPunch_of_held {set : PunchHalts → PunchHalts} {s : State} {h : Held}
    (going : s.punch.halts.any = false) (held : s.punch.held = some h) :
    haltPunch set s = returned h (s.setPunch { s.punch with held := none, halts := set s.punch.halts }) := by
  rw [haltPunch_eq, punchHalted_of_held going held, returned_setPunch]
  rfl

theorem printerReply_returned (h : Held) (s : State) :
    printerReply (returned h s) = (replyTo 0x32 statusOk [s.printer.halts.value], returned h s) := by
  unfold printerReply
  rw [congrArg State.printer (returned_frame h s)]

theorem punchReply_returned (h : Held) (s : State) :
    punchReply (returned h s)
      = (replyTo 0x33 statusOk [s.punch.halts.value, byte s.punch.feeds], returned h s) := by
  unfold punchReply
  rw [congrArg State.punch (returned_frame h s)]

/-- The reasons left by a RESUME at the printer. -/
theorem PrinterHalts.value_resumed (h : PrinterHalts) :
    { h with host := false, carriage := false : PrinterHalts }.value =
      byte ((if h.paper then 1 else 0) + (if h.cover then 2 else 0)) := by
  obtain ⟨paper, cover, _, _⟩ := h
  cases paper <;> cases cover <;> rfl

/-- Those left by a RESUME at the punch. -/
theorem PunchHalts.value_resumed (h : PunchHalts) :
    { h with host := false : PunchHalts }.value =
      byte ((if h.tapeOut then 1 else 0) + (if h.cover then 2 else 0)) := by
  obtain ⟨out, cover, _⟩ := h
  cases out <;> cases cover <;> rfl

theorem PunchHalts.value_eq (h : PunchHalts) :
    h.value =
      byte ((byte ((if h.tapeOut then 1 else 0) + (if h.cover then 2 else 0))).toNat + (if h.host then 4 else 0)) := by
  obtain ⟨out, cover, host⟩ := h
  cases out <;> cases cover <;> cases host <;> rfl

/-- Settles O28: each STOP by whether its engine halts now and holds an entry, which goes back as `returned` says. -/
theorem engineActions : Obligations.EngineActions := by
  unfold Obligations.EngineActions
  intro s taken n back stopPrinter emptied stopPunch cleared p q
  let e := emptyBuffer s
  have runPrinterStop : exec .printerActionStop s = finish (hostRecord 1 doPrinterStop s) := rfl
  have runPrinterResume : exec .printerActionResume s = finish (hostRecord 1 doPrinterResume s) := rfl
  have runPunchStop : exec (.punchActionStop n) s = finish (hostRecord 2 doPunchStop s) := rfl
  have runPunchResume : exec (.punchActionResume n) s = finish (hostRecord 2 doPunchResume s) := rfl
  have runFeed : exec (.punchActionFeed n) s = finish (hostRecord 2 (doPunchFeed n) s) := rfl
  have stopsPrinter : doPrinterStop e = printerReply (haltPrinter (fun h => { h with host := true }) e) := rfl
  have stopsPunch : doPunchStop e = punchReply (haltPunch (fun h => { h with host := true }) e) := rfl
  refine ⟨fun idle => ?_, fun h going held => ?_, fun idle => ?_, fun h going held => ?_, ?_, ?_, fun zero => ?_,
    fun feeding => ?_⟩
  · rw [haltPrinter_of_idle (s := e) idle] at stopsPrinter
    exact answers_of_act (kind := 0xB2) runPrinterStop taken (by decide) stopsPrinter rfl
  · have goesBack : haltPrinter (fun h => { h with host := true }) e = (returned h emptied).setLink e.link := by
      rw [haltPrinter_of_held (s := e) going held, ← returned_setLink]
      rfl
    have acts : doPrinterStop e = (.record 0xB2 [0, p], (returned h emptied).setLink e.link) := by
      rw [stopsPrinter, goesBack, ← returned_setLink, printerReply_returned]
      rfl
    exact answers_of_act (t := returned h emptied) runPrinterStop taken (by decide) acts (by rw [returned_frame])
  · rw [haltPunch_of_idle (s := e) idle] at stopsPunch
    exact answers_of_act (kind := 0xB3) runPunchStop taken (by decide) stopsPunch rfl
  · have goesBack : haltPunch (fun h => { h with host := true }) e = (returned h cleared).setLink e.link := by
      rw [haltPunch_of_held (s := e) going held, ← returned_setLink]
      rfl
    have acts : doPunchStop e = (.record 0xB3 [0, q, byte s.punch.feeds], (returned h cleared).setLink e.link) := by
      rw [stopsPunch, goesBack, ← returned_setLink, punchReply_returned]
      rfl
    exact answers_of_act (t := returned h cleared) runPunchStop taken (by decide) acts (by rw [returned_frame])
  · rw [← PrinterHalts.value_resumed]
    exact answers_of_act (kind := 0xB2) runPrinterResume taken (by decide) rfl rfl
  · rw [← PunchHalts.value_resumed]
    exact answers_of_act (kind := 0xB3) runPunchResume taken (by decide) rfl rfl
  · exact refuses_of_act (kind := 0x33) runFeed taken (by decide) (if_pos zero)
  · have acts : doPunchFeed n e = punchReply (addFeeds n.toNat e) := if_neg feeding
    rw [← PunchHalts.value_eq]
    exact answers_of_act (kind := 0xB3) runFeed taken (by decide) acts rfl

end Sys2Proof.Machine
end

section
/-! SET MODE (R10, R120, R151, R193): the two changes as they bear on the link, the mode flags and the host's and the
transmitter's cursors, and the claim O22. -/

namespace Sys2Proof.Machine

/-! ## What the changes leave alone -/

theorem cursorJoined_under (c : CursorId) (k : Controller) (l : Link) (s : State) :
    cursorJoined c (s.under k l) = (cursorJoined c s).under k l := by
  by_cases attached : (s.cursor c).attached = true
  · have same : cursorJoined c s = s := if_pos attached
    have same' : cursorJoined c (s.under k l) = s.under k l := if_pos attached
    rw [same, same']
  by_cases within : unread s c ≤ (s.ring c.ring).len
  · have joined : cursorJoined c s = s.setCursor c { s.cursor c with attached := true } :=
      (if_neg attached).trans (if_pos within)
    rw [joined]
    exact (if_neg attached).trans (if_pos within)
  · have joined : cursorJoined c s = _ := (if_neg attached).trans (if_neg within)
    rw [joined]
    exact (if_neg attached).trans (if_neg within)

theorem printerReturned_under (k : Controller) (l : Link) (s : State) :
    printerReturned (s.under k l) = (printerReturned s).under k l := by
  unfold printerReturned
  have held : (s.under k l).printer.held = s.printer.held := rfl
  rw [held]
  cases s.printer.held with
  | none => rfl
  | some h =>
    simp only [returned_under]
    rfl

theorem punchReturned_under (k : Controller) (l : Link) (s : State) :
    punchReturned (s.under k l) = (punchReturned s).under k l := by
  unfold punchReturned
  have held : (s.under k l).punch.held = s.punch.held := rfl
  rw [held]
  cases s.punch.held with
  | none => rfl
  | some h =>
    simp only [returned_under]
    rfl

theorem stationChanged_under (m : StationMode) (k : Controller) (l : Link) (s : State) :
    stationChanged m (s.under k l) = (stationChanged m s).under k l := by
  by_cases same : s.modes.station = m
  · rw [stationChanged_of_eq same, stationChanged_of_eq (by exact same)]
  · rw [stationChanged_of_ne same, stationChanged_of_ne (by exact same), printerReturned_under]
    have left (c : CursorId) (u : State) : cursorLeft c (u.under k l) = (cursorLeft c u).under k l := rfl
    rw [left, cursorJoined_under]
    rfl

theorem sourceLeft_under (c : Option CursorId) (k : Controller) (l : Link) (s : State) :
    sourceLeft c (s.under k l) = (sourceLeft c s).under k l := by
  cases c with
  | none => rfl
  | some c =>
    by_cases mine : s.modes.station.destination = c.ring
    · have left : sourceLeft (some c) s = lockTested c.ring (cursorLeft c s) := if_pos mine
      rw [left]
      exact if_pos mine
    · have left : sourceLeft (some c) s = cursorLeft c s := if_neg mine
      rw [left]
      exact if_neg mine

theorem sourceJoined_under (c : Option CursorId) (k : Controller) (l : Link) (s : State) :
    sourceJoined c (s.under k l) = (sourceJoined c s).under k l := by
  cases c with
  | none => rfl
  | some c => exact cursorJoined_under c k l s

theorem sourceChanged_under (source : PunchSource) (k : Controller) (l : Link) (s : State) :
    sourceChanged source (s.under k l) = (sourceChanged source s).under k l := by
  by_cases same : s.modes.source = source
  · rw [sourceChanged_of_eq same, sourceChanged_of_eq (by exact same)]
  · rw [sourceChanged_of_ne same, sourceChanged_of_ne (by exact same), punchReturned_under]
    have modes : (s.under k l).modes = s.modes := rfl
    rw [modes, sourceLeft_under, sourceJoined_under]
    rfl

theorem stationChanged_now (m : StationMode) (s : State) : (stationChanged m s).now = s.now := by
  rw [← changeStation_eq]
  simp

theorem sourceChanged_now (source : PunchSource) (s : State) : (sourceChanged source s).now = s.now := by
  rw [← changeSource_eq]
  simp

theorem stationChanged_controller (m : StationMode) (s : State) :
    (stationChanged m s).controller = s.controller := by
  rw [← changeStation_eq]
  simp

theorem sourceChanged_controller (source : PunchSource) (s : State) :
    (sourceChanged source s).controller = s.controller := by
  rw [← changeSource_eq]
  simp

theorem stationChanged_modes (m : StationMode) (s : State) :
    (stationChanged m s).modes = { s.modes with station := m } := by
  by_cases same : s.modes.station = m
  · rw [stationChanged_of_eq same, ← same]
  · rw [stationChanged_of_ne same]
    rfl

theorem sourceChanged_modes (source : PunchSource) (s : State) :
    (sourceChanged source s).modes = { s.modes with source := source } := by
  by_cases same : s.modes.source = source
  · rw [sourceChanged_of_eq same, ← same]
  · rw [sourceChanged_of_ne same]

/-! ## The cursors that no change of mode or source moves -/

theorem returned_cursor_other {h : Held} {d : CursorId} (ne : d ≠ h.cursor) (s : State) :
    (returned h s).cursor d = s.cursor d := by
  unfold returned
  split
  · rfl
  · split <;> exact setCursor_cursor_other ne _ s

theorem cursorJoined_cursor_other {c d : CursorId} (ne : d ≠ c) (s : State) :
    (cursorJoined c s).cursor d = s.cursor d := by
  unfold cursorJoined
  simp only
  split
  · rfl
  · split <;> exact setCursor_cursor_other ne _ s

theorem printCursor_eq (s : State) : printCursor s = s.modes.station.cursor := by
  unfold printCursor
  cases s.modes.station <;> rfl

theorem punchCursor_eq (s : State) : punchCursor s = s.modes.source.cursor := by
  unfold punchCursor
  cases s.modes.source <;> rfl

/-- The cursors of the host and of the transmitter are the readers of no engine. -/
def CursorId.ofNoEngine : CursorId → Bool
  | .hostT => true
  | .hostL => true
  | .xmit => true
  | _ => false

theorem StationMode.cursor_ne {d : CursorId} (free : d.ofNoEngine = true) (m : StationMode) : d ≠ m.cursor := by
  rintro rfl
  cases m <;> cases free

theorem PunchSource.cursor_ne {c d : CursorId} (free : d.ofNoEngine = true) {source : PunchSource}
    (reads : source.cursor = some c) : d ≠ c := by
  rintro rfl
  cases source <;> cases reads <;> cases free

theorem stationChanged_cursor {m : StationMode} {s : State} (through : HeldThrough s) {d : CursorId}
    (free : d.ofNoEngine = true) : (stationChanged m s).cursor d = s.cursor d := by
  by_cases same : s.modes.station = m
  · rw [stationChanged_of_eq same]
  have back : (printerReturned s).cursor d = s.cursor d := by
    unfold printerReturned
    cases held : s.printer.held with
    | none => rfl
    | some h =>
      have ne : d ≠ h.cursor := by
        rw [through.1 h held, printCursor_eq]
        exact StationMode.cursor_ne free _
      exact returned_cursor_other ne s
  rw [stationChanged_of_ne same]
  exact (cursorJoined_cursor_other (StationMode.cursor_ne free m) _).trans
    ((setCursor_cursor_other (StationMode.cursor_ne free _) _ _).trans back)

theorem sourceChanged_cursor {source : PunchSource} {s : State} (through : HeldThrough s) {d : CursorId}
    (free : d.ofNoEngine = true) : (sourceChanged source s).cursor d = s.cursor d := by
  by_cases same : s.modes.source = source
  · rw [sourceChanged_of_eq same]
  have back : (punchReturned s).cursor d = s.cursor d := by
    unfold punchReturned
    cases held : s.punch.held with
    | none => rfl
    | some h => 
      have ne : d ≠ h.cursor := by
        have reads := through.2 h held
        rw [punchCursor_eq] at reads
        exact PunchSource.cursor_ne free reads
      exact returned_cursor_other ne s
  have left (u : State) : (sourceLeft s.modes.source.cursor u).cursor d = u.cursor d := by
    cases reads : s.modes.source.cursor with
    | none => rfl
    | some c =>
      unfold sourceLeft
      simp only
      split <;> exact setCursor_cursor_other (PunchSource.cursor_ne free reads) _ u
  have joined (u : State) : (sourceJoined source.cursor u).cursor d = u.cursor d := by
    cases reads : source.cursor with
    | none => rfl
    | some c => exact cursorJoined_cursor_other (PunchSource.cursor_ne free reads) u
  rw [sourceChanged_of_ne same]
  exact (joined _).trans ((left _).trans back)

/-! ## The command -/

theorem putModes_eq (a e f d st src fil : Byte) (s : State) :
    putModes a e f d st src fil s =
      sourceChanged (sourceOf src)
        (stationChanged (stationOf st)
          { s with modes :=
              { s.modes with
                answering := a == 1, answerOnEstablish := e == 1, forcesOnline := f == 1, divert := d == 1,
                farOnly := fil == 1 } }) := by
  rw [← changeSource_eq, ← changeStation_eq]
  rfl

/-- Settles O22: the value check, then the two changes of `putModes_eq`; what they keep of the cursors and the lock is
shown of each change in turn. -/
theorem setMode : Obligations.SetMode := by
  unfold Obligations.SetMode
  intro s a e f d st src fil taken cmd bad station source flagged t
  have run : exec cmd s = finish (hostRecord 7 (doSetMode [a, e, f, d, st, src, fil]) s) := rfl
  have check : ((([a, e, f, d, st,
      fil].any fun b => decide (1 < b.toNat)) || decide (2 < src.toNat)) = true) ↔ bad := by
    simp only [List.any_cons, List.any_nil, Bool.or_false, Bool.or_eq_true, decide_eq_true_eq, bad]
    tauto
  have through : HeldThrough s → HeldThrough flagged := fun h => h
  refine ⟨fun refused => ?_, fun fine => ⟨?_, ?_, fun attached => ?_, fun held => ?_, fun locked other same => ?_⟩⟩
  · exact refuses_of_act (kind := 0x30) run taken (by decide) (if_pos (check.2 refused))
  · have acts : doSetMode [a, e, f, d, st, src, fil] (emptyBuffer s) = (.record 0xB0 [0],
      t.setLink (emptyBuffer s).link) := by
      have effect : putModes a e f d st src fil (emptyBuffer s) = t.setLink (emptyBuffer s).link := by
        have still : t.controller = s.controller := by
          rw [sourceChanged_controller, stationChanged_controller]
        have linked : t.setLink (emptyBuffer s).link = t.under s.controller (emptyBuffer s).link := by
          rw [← still]
          rfl
        rw [putModes_eq, linked, ← sourceChanged_under, ← stationChanged_under]
        rfl
      rw [← effect]
      exact if_neg (mt check.1 fine)
    exact answers_of_act run taken (by decide) acts (by rw [sourceChanged_now, stationChanged_now])
  · rw [sourceChanged_modes, stationChanged_modes]
  · have kept := storeClosed_attachedByMode.source source (storeClosed_attachedByMode.station station
      (s := flagged) (storeClosed_attachedByMode.flags flagged.modes rfl rfl attached))
    rwa [changeSource_eq, changeStation_eq] at kept
  · have kept : HeldThrough (stationChanged station flagged) := by
      rw [← changeStation_eq]
      exact storeClosed_heldThrough.station station (through held)
    have moved {d : CursorId} (free : d.ofNoEngine = true) : t.cursor d = s.cursor d :=
      (sourceChanged_cursor kept free).trans (stationChanged_cursor (through held) free)
    refine ⟨?_, moved rfl, moved rfl, moved rfl⟩
    have last := storeClosed_heldThrough.source source kept
    rwa [changeSource_eq] at last
  · have stays : t = stationChanged station flagged :=
      sourceChanged_of_eq (by rw [stationChanged_modes]; exact same.symm)
    have changed := stationChanged_of_ne (s := flagged) (m := station) (Ne.symm other)
    let x : State :=
      { cursorJoined station.cursor (cursorLeft s.modes.station.cursor (printerReturned flagged)) with
        modes := { flagged.modes with station := station } }
    have result : t = lockTested station.destination x := stays.trans changed
    have still : x.keyboard.locked = true := by
      have keyboard : x.keyboard = (printerReturned flagged).keyboard := cursorJoined_keyboard _ _
      rw [keyboard, printerReturned_frame]
      exact locked
    have ring : destination t = station.destination := by rw [result]; rfl
    rw [ring, result]
    have tests : (lockTested station.destination x).keyboard.locked = !decide (8 ≤ freeSpace x station.destination) := by
      simp only [lockTested, still, Bool.true_and]
    have space : freeSpace (lockTested station.destination x) station.destination = freeSpace x station.destination := rfl
    rw [tests, space]
    simp

end Sys2Proof.Machine
end

section
/-! The entry of a call (R75 to R80, R87): the CONNECT marker and the planes, then the line state it ends in, and the
claims O24 and O25. -/

namespace Sys2Proof.Machine

/-! ## The marker and the planes (R76, R77) -/

theorem lapIfOver_under (c : CursorId) (k : Controller) (l : Link) (s : State) :
    lapIfOver c (s.under k l) = (lapIfOver c s).under k l := by
  by_cases due : ((s.cursor c).attached && decide ((s.ring c.ring).len < unread s c)) = true
  · have lapped : lapIfOver c s = lapCursor c 1 s := if_pos due
    rw [lapped]
    exact if_pos due
  · have stays : lapIfOver c s = s := if_neg due
    rw [stays]
    exact if_neg due

theorem writeTraffic_under (e : Entry) (k : Controller) (l : Link) (s : State) :
    writeTraffic e (s.under k l) = (writeTraffic e s).under k l := by
  have appended : appendEntry .traffic e (s.under k l) = (appendEntry .traffic e s).under k l := rfl
  simp only [writeTraffic, appended, lapIfOver_under]

theorem openMarker_of_closed {s : State} (closed : s.controller.markerOpen = false) :
    openMarker s =
      { writeTraffic .connect s with controller := { s.controller with markerOpen := true } } := by
  simp [openMarker, closed, State.setController]

/-- The station changed where a call forces the machine on line (R76). -/
def calledMode (kind : CallKind) (s : State) : State :=
  if kind = .answered ∧ s.modes.forcesOnline = true then stationChanged .online s else s

/-- The call entered up to its line state: the mode forced, the CONNECT written, the planes in LETTERS (R76). -/
def callEntered (kind : CallKind) (s : State) : State :=
  { writeTraffic .connect (calledMode kind s) with
    controller := { s.controller with callKind := some kind, markerOpen := true }
    receiver := { s.receiver with linePlane := .letters }
    transmitter := { s.transmitter with streamPlane := .letters } }

theorem calledMode_under (kind : CallKind) (k : Controller) (l : Link) (s : State) :
    calledMode kind (s.under k l) = (calledMode kind s).under k l := by
  by_cases forced : kind = .answered ∧ s.modes.forcesOnline = true
  · have changed : calledMode kind s = stationChanged .online s := if_pos forced
    rw [changed, ← stationChanged_under]
    exact if_pos forced
  · have stays : calledMode kind s = s := if_neg forced
    rw [stays]
    exact if_neg forced

/-- What a call may move besides the line: the store, the mode, the print slot, the lock and the events. -/
theorem calledMode_frame (kind : CallKind) (s : State) :
    calledMode kind s =
      { s with
        store := (calledMode kind s).store
        modes := { s.modes with station := (calledMode kind s).modes.station }
        keyboard := (calledMode kind s).keyboard
        printer := (calledMode kind s).printer
        events := (calledMode kind s).events } := by
  unfold calledMode
  split
  · by_cases same : s.modes.station = .online
    · rw [stationChanged_of_eq same]
    · rw [stationChanged_of_ne same]
      simp only [lockTested]
      rw [cursorJoined_frame]
      simp only [cursorLeft, State.setCursor, State.setStore]
      rw [printerReturned_frame]
  · rfl

theorem writeTraffic_eq_frame (e : Entry) (s : State) :
    writeTraffic e s = { s with store := (writeTraffic e s).store, events := (writeTraffic e s).events } := by
  have frame (c : CursorId) (u : State) :
      lapIfOver c u = { u with store := (lapIfOver c u).store, events := (lapIfOver c u).events } := by
    unfold lapIfOver
    split <;> rfl
  unfold writeTraffic
  rw [frame .hostT, frame .punchT, frame .printP]
  rfl

theorem callTraffic_frame (kind : CallKind) (s : State) :
    let u := writeTraffic .connect (calledMode kind s)
    u =
      { s with
        store := u.store
        modes := { s.modes with station := u.modes.station }
        keyboard := u.keyboard
        printer := u.printer
        events := u.events } := by
  intro u
  have frame : u = _ := writeTraffic_eq_frame .connect (calledMode kind s)
  rw [frame]
  simp only
  rw [calledMode_frame]

theorem enterCall_eq {kind : CallKind} {accepted : Bool} {s : State} (closed : s.controller.markerOpen = false) :
    enterCall kind accepted s =
      if accepted then enterWaking (callEntered kind s) else turnedAway (callEntered kind s) := by
  have opened : lettersPlanes (openMarker (calledMode kind (s.under { s.controller with callKind := some kind } s.link)))
      = callEntered kind s := by
    rw [calledMode_under, openMarker_of_closed (by exact closed), writeTraffic_under]
    unfold lettersPlanes callEntered
    rw [callTraffic_frame]
    rfl
  have same : enterCall kind accepted s =
      if accepted then
        enterWaking (lettersPlanes (openMarker (calledMode kind (s.under { s.controller with callKind := some kind } s.link))))
      else
        enterRefusing (lettersPlanes
          (openMarker (calledMode kind (s.under { s.controller with callKind := some kind } s.link)))) := by
    unfold enterCall
    simp only [changeStation_eq]
    rfl
  have planes : lettersPlanes (callEntered kind s) = callEntered kind s := rfl
  rw [same, opened, ← enterRefusing_eq, planes]

theorem enterWaking_eq (x : State) :
    enterWaking x =
      match x.motor.state with
      | .running => established x
      | .fault => if x.controller.callKind = some .answered then turnedAway x else cleared x
      | .stopped => setLine .waking x
      | .runup => setLine .waking x := by
  unfold enterWaking
  simp only [wakingFault_eq, enterEstablished_eq]
  have motor : (setLine .waking x).motor = x.motor := rfl
  rw [motor]
  cases x.motor.state <;> rfl

theorem turnedAway_of_records {s : State} (records : s.tables.answerBack ++ s.tables.refusal ≠ []) :
    turnedAway s =
      { s with
        receiver := { s.receiver with linePlane := .letters }
        controller := { s.controller with state := .refusing }
        transmitter :=
          { s.transmitter with
            streamPlane := .letters, sequencer := .refusal (s.tables.answerBack ++ s.tables.refusal) } } :=
  if_neg records

theorem turnedAway_of_empty {s : State} (empty : s.tables.answerBack ++ s.tables.refusal = []) :
    turnedAway s = cleared (lettersPlanes s) :=
  if_pos empty

/-- A call entered that ends in a line state: what the entry to that state makes of it (R78 to R80, R83). The four
lemmas that follow tie it to the model. -/
def landedIn (line : LineState) (x : State) : State :=
  let asks := line = .established ∧ x.controller.callKind = some .answered ∧ x.modes.answerOnEstablish = true
    ∧ x.tables.answerBack ≠ []
  { x with
    controller :=
      { x.controller with
        state := line
        clearTimer :=
          match line, x.transmitter.state with
          | .clearing, .idle => some (x.now + x.setup.line.clearSendMs * 1000)
          | .clearing, .breaking _ => some (x.now + x.setup.line.clearSendMs * 1000)
          | _, _ => x.controller.clearTimer }
    receiver :=
      { x.receiver with
        run := if line = .clearing then none else if line = .established then breakNoted x else x.receiver.run }
    transmitter :=
      { x.transmitter with
        state :=
          match line, x.transmitter.state with
          | .clearing, .idle => .clearSpacing
          | .clearing, .breaking _ => .clearSpacing
          | _, tx => tx
        sequencer :=
          if line = .clearing then endedSequencer x
          else if line = .refusing then .refusal (x.tables.answerBack ++ x.tables.refusal)
          else if asks ∧ x.transmitter.sequencer = .empty then .request false
          else x.transmitter.sequencer
        dropped :=
          if asks ∧ x.transmitter.sequencer ≠ .empty then min 65535 (x.transmitter.dropped + 1)
          else x.transmitter.dropped
        breakPending := if line = .clearing then false else x.transmitter.breakPending }
    events := if line = .established then occurs 1 none x else x.events }

theorem cleared_landedIn (x : State) : cleared x = landedIn .clearing x := by
  unfold cleared landedIn
  simp only [if_true, reduceCtorEq, false_and, if_false]
  cases x.transmitter.state <;> rfl

theorem established_landedIn (x : State) : established x = landedIn .established x := by
  unfold established landedIn
  simp only [if_true, reduceCtorEq, if_false, true_and]
  cases x.transmitter.state <;> rfl

theorem waking_landedIn (x : State) : setLine .waking x = landedIn .waking x := by
  unfold landedIn
  simp only [reduceCtorEq, false_and, if_false]
  rfl

/-- A call turned away whose planes are in LETTERS already. -/
theorem turnedAway_landedIn {x : State} (planes : lettersPlanes x = x) :
    turnedAway x =
      landedIn (if x.tables.answerBack ++ x.tables.refusal = [] then .clearing else .refusing) x := by
  by_cases empty : x.tables.answerBack ++ x.tables.refusal = []
  · rw [turnedAway_of_empty empty, planes, if_pos empty, cleared_landedIn]
  · have refused : setLine .refusing
        { lettersPlanes x with
          transmitter :=
            { (lettersPlanes x).transmitter with
              sequencer := .refusal (x.tables.answerBack ++ x.tables.refusal) } } = turnedAway x :=
      (turnedAway_of_records empty).symm
    rw [← refused, planes, if_neg empty]
    unfold landedIn
    simp only [reduceCtorEq, false_and, if_true, if_false]
    cases x.transmitter.state <;> rfl

/-- The line state that a call ends in (R76, R78, R80). -/
def callLine (kind : CallKind) (accepted : Bool) (s : State) : LineState :=
  if accepted = false ∨ (s.motor.state = .fault ∧ kind = .answered) then
    if s.tables.answerBack ++ s.tables.refusal = [] then .clearing else .refusing
  else
    match s.motor.state with
    | .running => .established
    | .fault => .clearing
    | _ => .waking

theorem enterCall_landedIn {kind : CallKind} {accepted : Bool} {s : State} (closed : s.controller.markerOpen = false) :
    enterCall kind accepted s = landedIn (callLine kind accepted s) (callEntered kind s) := by
  have planes : lettersPlanes (callEntered kind s) = callEntered kind s := rfl
  have motor : (callEntered kind s).motor = s.motor := by
    unfold callEntered
    rw [callTraffic_frame]
  have tables : (callEntered kind s).tables = s.tables := by
    unfold callEntered
    rw [callTraffic_frame]
  have away := turnedAway_landedIn planes
  have called : (callEntered kind s).controller.callKind = some kind := rfl
  rw [tables] at away
  rw [enterCall_eq closed, enterWaking_eq]
  simp only [motor, called, Option.some.injEq]
  unfold callLine
  cases accepted with
  | false => rw [if_neg nofun, if_pos (.inl rfl), away]
  | true =>
    rw [if_pos rfl]
    cases s.motor.state with
    | running => simp [established_landedIn]
    | fault =>
      cases kind with
      | answered => simpa using away
      | originated => simp [cleared_landedIn]
    | stopped => simp [waking_landedIn]
    | runup => simp [waking_landedIn]

/-- Settles O24: the entry is `callEntered`, and the line state it ends in acts as `landedIn` says. -/
theorem callEntry : Obligations.CallEntry := by
  unfold Obligations.CallEntry
  intro kind accepted s closed s1 u codes refused line asks
  rw [enterCall_landedIn closed]
  have entered : callEntered kind s =
      { u with
        controller := { s.controller with callKind := some kind, markerOpen := true }
        receiver := { s.receiver with linePlane := .letters }
        transmitter := { s.transmitter with streamPlane := .letters } } := rfl
  have frame : u = _ := callTraffic_frame kind s
  have ends : callLine kind accepted s = line := rfl
  have called : (some kind = some CallKind.answered) = (kind = .answered) := Option.some.injEq ..
  rw [entered, ends]
  clear_value line
  unfold landedIn
  simp only [called]
  rw [frame]
  rfl

/-! ## ANSWER (R75, R87) -/

theorem turnedAway_setLink (l : Link) (x : State) : turnedAway (x.setLink l) = (turnedAway x).setLink l := by
  by_cases empty : x.tables.answerBack ++ x.tables.refusal = []
  · rw [turnedAway_of_empty empty]
    exact turnedAway_of_empty empty
  · rw [turnedAway_of_records empty]
    exact turnedAway_of_records empty

theorem enterWaking_setLink (l : Link) (x : State) : enterWaking (x.setLink l) = (enterWaking x).setLink l := by
  simp only [enterWaking_eq, State.setLink_motor, State.setLink_controller]
  cases x.motor.state with
  | fault =>
    by_cases answered : x.controller.callKind = some .answered
    · simp only [if_pos answered, turnedAway_setLink]
    · have left : cleared (x.setLink l) = (cleared x).setLink l := rfl
      simp only [if_neg answered, left]
  | _ => rfl

theorem openMarker_setLink (l : Link) (s : State) : openMarker (s.setLink l) = (openMarker s).setLink l := by
  unfold openMarker
  have written : writeTraffic .connect (s.setLink l) = (writeTraffic .connect s).setLink l := by
    have still : (writeTraffic .connect s).controller = s.controller := by simp
    refine (writeTraffic_under .connect s.controller l s).trans ?_
    rw [← still]
    rfl
  rw [State.setLink_controller]
  split
  · rfl
  · simp only [written]
    rfl

/-- The entry of a call looks nowhere at the link. -/
theorem enterCall_setLink (kind : CallKind) (accepted : Bool) (l : Link) (s : State) :
    enterCall kind accepted (s.setLink l) = (enterCall kind accepted s).setLink l := by
  have mode (u : State) : (if kind = .answered ∧ u.modes.forcesOnline = true then changeStation .online u else u)
      = calledMode kind u := by
    simp only [changeStation_eq]
    rfl
  have linked (u : State) : calledMode kind (u.setLink l) = (calledMode kind u).setLink l := by
    have still : (calledMode kind u).controller = u.controller := by rw [calledMode_frame]
    refine (calledMode_under kind u.controller l u).trans ?_
    rw [← still]
    rfl
  have planes (u : State) : lettersPlanes (u.setLink l) = (lettersPlanes u).setLink l := rfl
  have named (u : State) (k : Controller) : (u.setLink l).setController k = (u.setController k).setLink l := rfl
  unfold enterCall
  simp only [mode, named, State.setLink_controller, linked, openMarker_setLink]
  cases accepted with
  | false => simp only [Bool.false_eq_true, if_false, enterRefusing_eq, turnedAway_setLink]
  | true => simp only [if_true, planes, enterWaking_setLink]

/-- Settles O25: the state check, then the acceptance check read as its proposition. -/
theorem answerByAcceptance : Obligations.AnswerByAcceptance := by
  unfold Obligations.AnswerByAcceptance
  intro s taken
  have run : exec .answer s = finish (hostRecord 1 doAnswer s) := rfl
  refine ⟨fun elsewhere => ?_, fun accepted line accepts => ?_⟩
  · exact refuses_of_act (kind := 0x31) run taken (by decide) (if_neg elsewhere)
  · intro t
    have check : canAccept (emptyBuffer s) = accepted := Bool.eq_iff_iff.2 ((canAccept_iff s).trans accepts.symm)
    have acts : doAnswer (emptyBuffer s) = lineReply 0 (t.setLink (emptyBuffer s).link) := by
      rw [← enterCall_setLink]
      refine (if_pos line).trans ?_
      rw [check]
      rfl
    exact answers_lineReply run taken acts (by simp [t])

end Sys2Proof.Machine
end

section
/-! ATTACH HOST READER and MOVE READER (R9, R18, R21, R22): the test of the lock at an event of a ring, the cursor
moved, and the claims O32 and O33. -/

namespace Sys2Proof.Machine

/-! ## The test of the lock at an event of a ring (R119) -/

theorem testLockOn_eq (i : RingId) (s : State) :
    testLockOn i s =
      { s with keyboard :=
          { s.keyboard with
            locked := s.keyboard.locked && !(decide (destination s = i) && decide (8 ≤ freeSpace s i)) } } := by
  unfold testLockOn
  by_cases mine : destination s = i
  · rw [if_pos mine, testLock_eq, mine]
    simp only [lockTested, decide_true, Bool.true_and]
  · rw [if_neg mine]
    simp [mine]

/-- Keystrokes never go into TRAFFIC. -/
theorem destination_ne_traffic (s : State) : destination s ≠ .traffic := by
  rw [destination_eq]
  cases s.modes.station <;> nofun

/-- They go into LOCAL when the station mode is LOCAL. -/
theorem destination_eq_loc_iff (s : State) : destination s = .loc ↔ s.modes.station = .localMode := by
  rw [destination_eq]
  cases s.modes.station <;> simp [StationMode.destination]

/-- A host cursor's event tests the lock of a keyboard that types into LOCAL, where it is HOST-L's. -/
theorem testsLock_hostCursor {c : CursorId} (host : c = .hostT ∨ c = .hostL) (s : State) :
    decide (destination s = c.ring) = (c == .hostL && s.modes.station == .localMode) := by
  obtain rfl | rfl := host
  · exact decide_eq_false (destination_ne_traffic s)
  · rw [Bool.eq_iff_iff]
    simp [CursorId.ring, destination_eq_loc_iff]

/-! ## ATTACH HOST READER (R22) -/

theorem hostCursor_eq_some {b : Byte} {c : CursorId} (h : (b = 4 ∧ c = .hostT) ∨ (b = 5 ∧ c = .hostL)) :
    hostCursor b = some c := by
  obtain ⟨rfl, rfl⟩ | ⟨rfl, rfl⟩ := h <;> rfl

theorem hostCursor_eq_none {b : Byte} (h4 : b ≠ 4) (h5 : b ≠ 5) : hostCursor b = none :=
  (if_neg h4).trans (if_neg h5)

theorem doAttach_of_some {b : Byte} {c : CursorId} (named : hostCursor b = some c) (s : State) :
    doAttach b s = attachReply c (cursorJoined c s) := by
  unfold doAttach
  simp only [named, attachCursor_eq]

theorem doDetach_of_some {b : Byte} {c : CursorId} (named : hostCursor b = some c) (s : State) :
    doDetach b s = attachReply c (detachHost c s) := by
  unfold doDetach
  simp only [named]

theorem attachReply_setLink (c : CursorId) (l : Link) (s : State) :
    attachReply c (s.setLink l) =
      (.record 0xCA (0 :: (be4 (s.cursor c).r.toNat ++ be4 (unread s c) ++ be2 (s.cursor c).lost)), s.setLink l) :=
  rfl

theorem cursorJoined_of_attached {c : CursorId} {s : State} (h : (s.cursor c).attached = true) :
    cursorJoined c s = s :=
  if_pos h

theorem cursorJoined_of_within {c : CursorId} {s : State} (h : (s.cursor c).attached = false)
    (within : unread s c ≤ (s.ring c.ring).len) :
    cursorJoined c s = s.setCursor c { s.cursor c with attached := true } :=
  (if_neg (by simp [h])).trans (if_pos within)

theorem cursorJoined_of_lapped {c : CursorId} {s : State} (h : (s.cursor c).attached = false)
    (lapped : (s.ring c.ring).len < unread s c) :
    cursorJoined c s =
      { s.setCursor c
          { r := (s.ring c.ring).w - BitVec.ofNat 32 (s.ring c.ring).len
            attached := true
            lost := min 65535 ((s.cursor c).lost + (unread s c - (s.ring c.ring).len)) } with
        events := occurs 7 (some (byte c.number)) s } :=
  (if_neg (by simp [h])).trans (if_neg (Nat.not_le.2 lapped))

theorem detachHost_of_detached {c : CursorId} {s : State} (h : (s.cursor c).attached = false) :
    detachHost c s = s :=
  if_neg (by simp [h])

theorem detachHost_of_attached {c : CursorId} {s : State} (h : (s.cursor c).attached = true) :
    detachHost c s = testLockOn c.ring (cursorLeft c s) :=
  if_pos h

/-- Settles O33: the cursor named, then the attachment by `cursorJoined` and the detachment by `testLockOn_eq`. -/
theorem attachHostReader : Obligations.AttachHostReader := by
  unfold Obligations.AttachHostReader
  intro cursor s taken attach detach
  let e := emptyBuffer s
  have runAttach : exec attach s = finish (hostRecord 2 (doAttach cursor) s) := rfl
  have runDetach : exec detach s = finish (hostRecord 2 (doDetach cursor) s) := rfl
  refine ⟨fun not4 not5 => ?_, fun c which => ?_⟩
  · have noCursor := hostCursor_eq_none not4 not5
    exact ⟨refuses_of_act (kind := 0x4A) runAttach taken (by decide) (by simp [doAttach, noCursor]),
      refuses_of_act (kind := 0x4A) runDetach taken (by decide) (by simp [doDetach, noCursor])⟩
  intro len reply joined caught left freed
  have named := hostCursor_eq_some which
  have attaches : doAttach cursor e = attachReply c (cursorJoined c e) := doAttach_of_some named e
  have detaches : doDetach cursor e = attachReply c (detachHost c e) := doDetach_of_some named e
  have number : byte c.number = cursor := by obtain ⟨rfl, rfl⟩ | ⟨rfl, rfl⟩ := which <;> rfl
  refine ⟨fun attached => ?_, fun detached within => ?_, fun detached lapped => ?_, fun detached => ?_,
    fun attached => ?_⟩
  · rw [cursorJoined_of_attached (s := e) attached] at attaches
    exact answers_of_act runAttach taken (by decide) attaches rfl
  · rw [cursorJoined_of_within (s := e) detached within] at attaches
    exact answers_of_act (t := joined) runAttach taken (by decide)
      (attaches.trans (attachReply_setLink c e.link joined)) rfl
  · rw [cursorJoined_of_lapped (s := e) detached lapped, number] at attaches
    exact answers_of_act (t := caught) runAttach taken (by decide)
      (attaches.trans (attachReply_setLink c e.link caught)) rfl
  · rw [detachHost_of_detached (s := e) detached] at detaches
    exact answers_of_act runDetach taken (by decide) detaches rfl
  · have frees : testLockOn c.ring (cursorLeft c e) = freed.setLink e.link := by
      have tests := testsLock_hostCursor (hostCursor_cases named) (cursorLeft c e)
      rw [testLockOn_eq, tests]
      obtain ⟨rfl, rfl⟩ | ⟨rfl, rfl⟩ := which <;> rfl
    rw [detachHost_of_attached (s := e) attached, frees] at detaches
    exact answers_of_act (t := freed) runDetach taken (by decide)
      (detaches.trans (attachReply_setLink c e.link freed)) rfl

/-! ## MOVE READER (R21) -/

theorem movedUnread_eq (s : State) (c : CursorId) (delta : Int) :
    movedUnread s c delta =
      let goal : Int := (unread s c : Int) - delta
      if goal < 0 then 0
      else if ((s.ring c.ring).retained : Int) < goal then (s.ring c.ring).retained
      else goal.toNat := by
  simp only [movedUnread]
  split
  · omega
  · split <;> omega

/-- What a movement through cursor c makes of a held entry (R18). -/
def movedMark (c : CursorId) (made : Int) (h : Held) : Held :=
  if h.cursor = c ∧ made ≠ 0 then { h with moved := true } else h

theorem movedMark_of_made {c : CursorId} {made : Int} (h : made ≠ 0) : movedMark c made = Held.markMoved c := by
  funext x
  simp [movedMark, Held.markMoved, h]

theorem movedMark_zero (c : CursorId) : movedMark c 0 = id := by
  funext x
  simp [movedMark]

theorem moveCursor_eq (c : CursorId) (delta : Int) (s : State) :
    let n := movedUnread s c delta
    let made := movementMade c delta s
    let mark := movedMark c made
    let u := s.setCursor c { s.cursor c with r := (s.ring c.ring).w - BitVec.ofNat 32 n }
    moveCursor c delta s =
      { u with
        printer := { s.printer with held := s.printer.held.map mark }
        punch := { s.punch with held := s.punch.held.map mark }
        keyboard :=
          { s.keyboard with
            locked := s.keyboard.locked && !(decide (0 < made) && destination s == c.ring
              && decide (8 ≤ freeSpace u c.ring)) } } := by
  intro n made mark u
  have marked : (if made = 0 then u else markHeld c u) =
      { u with
        printer := { s.printer with held := s.printer.held.map mark }
        punch := { s.punch with held := s.punch.held.map mark } } := by
    by_cases still : made = 0
    · have same : mark = id := by simp only [mark, still, movedMark_zero]
      rw [if_pos still, same, Option.map_id, id, id]
      rfl
    · have moved : mark = Held.markMoved c := movedMark_of_made still
      rw [if_neg still, moved]
      rfl
  have unfolded : moveCursor c delta s =
      let v := if made = 0 then u else markHeld c u
      if 0 < made then testLockOn c.ring v else v := rfl
  rw [unfolded, marked]
  by_cases forward : 0 < made
  · rw [if_pos forward, testLockOn_eq]
    simp only [forward, decide_true, Bool.true_and]
    rfl
  · rw [if_neg forward]
    simp only [forward, decide_false, Bool.false_and, Bool.not_false, Bool.and_true]
    rfl

/-- At most a whole ring of sequences is unread after a movement. -/
theorem movedUnread_lt {s : State} {c : CursorId} (delta : Int) (small : (s.ring c.ring).len ≤ 2032) :
    movedUnread s c delta < 2 ^ 32 := by
  have retained : (s.ring c.ring).retained < 2 ^ 32 := by
    unfold Ring.retained
    split
    · omega
    · exact BitVec.isLt _
  exact Nat.lt_of_le_of_lt (Nat.min_le_left _ _) retained

theorem cursorOf_number (c : CursorId) : cursorOf (byte c.number) = some c := by cases c <;> rfl

theorem cursorOf_of_large {b : Byte} (h : 6 < b.toNat) : cursorOf b = none :=
  List.getElem?_eq_none (Nat.succ_le_of_lt h)

/-- Settles O32: the two value checks, then the movement by `moveCursor_eq`. -/
theorem moveReader : Obligations.MoveReader := by
  unfold Obligations.MoveReader
  intro cursor delta s taken cmd bad
  let e := emptyBuffer s
  have run : exec cmd s = finish (hostRecord 3 (doMoveReader cursor delta) s) := rfl
  refine ⟨fun refused => ?_, fun c fine number small => ?_⟩
  · refine refuses_of_act (kind := 0x49) run taken (by decide) ?_
    unfold doMoveReader
    cases named : cursorOf cursor with
    | none => rfl
    | some c =>
      have fits : ¬ 6 < cursor.toNat := fun large => by simp [cursorOf_of_large large] at named
      exact if_pos (refused.resolve_left fits)
  · intro goal n made mark _
    have count : movedUnread s c delta.toInt = n := movedUnread_eq s c delta.toInt
    have fall : movementMade c delta.toInt s = made := by unfold movementMade; rw [count]
    let v : Cursor := { s.cursor c with r := (s.ring c.ring).w - BitVec.ofNat 32 n }
    let t := moveCursor c delta.toInt s
    have effect : t = _ := moveCursor_eq c delta.toInt s
    have linked : moveCursor c delta.toInt e = t.setLink e.link := by
      rw [effect]
      exact moveCursor_eq c delta.toInt e
    have unreadNow : unread t c = n := by
      rw [← count, ← unread_setUnread_same c s (movedUnread_lt delta.toInt small), effect]
      rfl
    have acts : doMoveReader cursor delta e =
        (.record 0xC9 (0 :: (signed4 made ++ be4 n ++ be2 (s.cursor c).lost)), t.setLink e.link) := by
      have within : ¬ (delta.toInt < -2032 ∨ 2032 < delta.toInt) := fun h => fine (.inr h)
      have lost : (t.cursor c).lost = (s.cursor c).lost := by
        rw [effect]
        rw [count]
        have stands := congrArg Cursor.lost (setCursor_cursor_same c v s)
        exact stands
      have ran : doMoveReader cursor delta e =
          (replyTo 0x49 statusOk
            (signed4 (movementMade c delta.toInt e) ++ be4 (unread (moveCursor c delta.toInt e) c)
              ++ be2 ((moveCursor c delta.toInt e).cursor c).lost), moveCursor c delta.toInt e) := by
        unfold doMoveReader
        rw [number, cursorOf_number]
        exact if_neg within
      rw [ran, linked, ← unreadNow, ← lost, ← fall]
      rfl
    refine ⟨t, answers_of_act run taken (by decide) acts (by rw [effect]; rfl), unreadNow, effect.trans ?_⟩
    have space : freeSpace t c.ring = freeSpace (s.setCursor c v) c.ring := by
      rw [effect, count]
      rfl
    rw [fall, count, space]
    rfl

end Sys2Proof.Machine
end

section
/-! READ ENTRIES (R19, R20, R38, R206): the entries read, their four bytes, what a TAKE moves, and the claim O31. -/

namespace Sys2Proof.Machine

/-! ## The entries read -/

theorem entriesFrom_of_store {s t : State} (store : t.store = s.store) (i : RingId) (n j : Nat) :
    entriesFrom t i n j = entriesFrom s i n j := by
  have back (j : Nat) : entryBack t i j = entryBack s i j :=
    entryBack_congr (by rw [store]) (by rw [store]) i j
  induction n generalizing j with
  | zero => rfl
  | succ n ih => simp only [entriesFrom, back, ih]

/-- From a place that is retained the entries come one after another, oldest first, as many as are asked for. -/
theorem entriesFrom_retained {s : State} {i : RingId} (fit : retainedFit s i) {n j : Nat} (within : n ≤ j)
    (retained : j ≤ (s.ring i).retained) :
    (entriesFrom s i n j).length = n ∧ ∀ k, k < n → (entriesFrom s i n j)[k]? = entryBack s i (j - k) := by
  induction n generalizing j with
  | zero => exact ⟨rfl, fun k h => absurd h (Nat.not_lt_zero k)⟩
  | succ n ih =>
    obtain ⟨e, back, _⟩ := fit j (by omega) retained
    obtain ⟨length, at_place⟩ := ih (j := j - 1) (by omega) (by omega)
    simp only [entriesFrom, back]
    refine ⟨congrArg (· + 1) length, fun k hk => ?_⟩
    cases k with
    | zero => exact back.symm
    | succ k =>
      rw [List.getElem?_cons_succ, at_place k (by omega)]
      congr 1
      omega

/-! ## The four bytes of an entry (R38, R206) -/

theorem originByte_eq (o : Option Origin) :
    byte (4 * originValue o) = if o = some .own ∨ o = some .host then 4 else 0 := by
  cases o with
  | none => rfl
  | some o => cases o <;> rfl

theorem eraseByte_eq (o : Option Origin) :
    byte (1 + 4 * originValue o) = if o = some .own ∨ o = some .host then 5 else 1 := by
  cases o with
  | none => rfl
  | some o => cases o <;> rfl

theorem Plane.value_eq (p : Plane) : 32 * p.value = if p = .figures then 32 else 0 := by
  cases p <;> rfl

/-! ## A TAKE (R19, R119) -/

theorem setCursor_self (c : CursorId) (s : State) : s.setCursor c (s.cursor c) = s := by
  cases c <;> rfl

/-- A take of n entries, which tests the lock where there are any. -/
theorem afterTake_eq {c : CursorId} {count n : Nat} {s : State} (taken : (takenEntries c count s).length = n) :
    let u := s.setCursor c { s.cursor c with r := (s.cursor c).r + BitVec.ofNat 32 n }
    afterTake c count s =
      { u with
        keyboard :=
          { s.keyboard with
            locked := s.keyboard.locked && !(decide (0 < n) && decide (destination s = c.ring)
              && decide (8 ≤ freeSpace u c.ring)) } } := by
  intro u
  have unfolded : afterTake c count s = if n = 0 then s else testLockOn c.ring u := by
    simp only [afterTake, taken]
    rfl
  rw [unfolded]
  by_cases none_taken : n = 0
  · have still : u = s := by
      have same : { s.cursor c with r := (s.cursor c).r + BitVec.ofNat 32 n } = s.cursor c := by
        rw [none_taken, BitVec.add_zero]
      simp only [u, same, setCursor_self]
    rw [if_pos none_taken, still]
    simp [none_taken]
  · rw [if_neg none_taken, testLockOn_eq]
    simp only [Nat.pos_of_ne_zero none_taken, decide_true, Bool.true_and]
    rfl

/-! ## The command -/

theorem doReadTake_of_range {cursor count : Byte} (h : (cursor ≠ 4 ∧ cursor ≠ 5) ∨ 15 < count.toNat) (s : State) :
    doReadTake cursor count s = refuse 0x48 statusRange s := by
  unfold doReadTake
  cases named : hostCursor cursor with
  | none => rfl
  | some c =>
    refine if_pos (h.resolve_left fun other => ?_)
    rw [hostCursor_eq_none other.1 other.2] at named
    cases named

theorem doReadPeek_of_range {cursor count : Byte} {offset : Half}
    (h : ((cursor ≠ 4 ∧ cursor ≠ 5) ∨ 15 < count.toNat) ∨ 2031 < offset.toNat) (s : State) :
    doReadPeek cursor offset count s = refuse 0x48 statusRange s := by
  unfold doReadPeek
  cases named : hostCursor cursor with
  | none => rfl
  | some c =>
    refine if_pos (h.imp_left fun h => h.resolve_left fun other => ?_)
    rw [hostCursor_eq_none other.1 other.2] at named
    cases named

theorem doReadTake_of_named {cursor count : Byte} {c : CursorId} (named : hostCursor cursor = some c)
    (small : count.toNat ≤ 15) (s : State) :
    doReadTake cursor count s =
      if (s.cursor c).attached then readReply c (takenEntries c count.toNat s) (afterTake c count.toNat s)
      else refuse 0x48 statusState s := by
  simp only [doReadTake, named, if_neg (Nat.not_lt.2 small)]
  cases (s.cursor c).attached <;> rfl

theorem doReadPeek_of_named {cursor count : Byte} {offset : Half} {c : CursorId} (named : hostCursor cursor = some c)
    (small : count.toNat ≤ 15) (inRange : offset.toNat ≤ 2031) (s : State) :
    doReadPeek cursor offset count s =
      if (s.cursor c).attached then readReply c (peekedEntries c offset.toNat count.toNat s) s
      else refuse 0x48 statusState s := by
  have fine : ¬ (15 < count.toNat ∨ 2031 < offset.toNat) := by omega
  simp only [doReadPeek, named, if_neg fine]
  cases (s.cursor c).attached <;> rfl

/-- Settles O31: the checks in turn, then the entries by `entriesFrom_retained` and the take by `afterTake_eq`. -/
theorem readEntries : Obligations.ReadEntries := by
  unfold Obligations.ReadEntries
  intro cursor offset count s taken take peek layout
  let e := emptyBuffer s
  have runTake : exec take s = finish (hostRecord 5 (doReadTake cursor count) s) := rfl
  have runPeek : exec peek s = finish (hostRecord 5 (doReadPeek cursor offset count) s) := rfl
  have bytes : layout = entryBytes s.tables := by
    funext x
    cases x with
    | char c p o h =>
      simp only [layout, entryBytes, originByte_eq, Plane.value_eq]
      cases h with
      | none => rfl
      | some h => obtain ⟨q, d⟩ := h; cases q <;> rfl
    | erase o => simp only [layout, entryBytes, eraseByte_eq]
    | connect => rfl
    | clear => rfl
  refine ⟨fun range => ⟨?_, ?_⟩, fun range => ?_, fun c which small => ?_⟩
  · exact refuses_of_act (kind := 0x48) runTake taken (by decide) (doReadTake_of_range range e)
  · exact refuses_of_act (kind := 0x48) runPeek taken (by decide) (doReadPeek_of_range (.inl range) e)
  · exact refuses_of_act (kind := 0x48) runPeek taken (by decide) (doReadPeek_of_range (.inr range) e)
  have named := hostCursor_eq_some which
  have takes := doReadTake_of_named named small e
  have peeks (inRange : offset.toNat ≤ 2031) := doReadPeek_of_named named small inRange e
  refine ⟨fun detached => ⟨?_, fun inRange => ?_⟩, fun attached ok bound => ?_⟩
  · have off : ¬ (e.cursor c).attached = true := fun on => Bool.false_ne_true (detached.symm.trans on)
    exact refuses_of_act (kind := 0x48) runTake taken (by decide) (takes.trans (if_neg off))
  · have off : ¬ (e.cursor c).attached = true := fun on => Bool.false_ne_true (detached.symm.trans on)
    exact refuses_of_act (kind := 0x48) runPeek taken (by decide) ((peeks inRange).trans (if_neg off))
  intro fields
  have fit : retainedFit s c.ring := ((storeOk_iff s).1 ok).2.2.2 c.ring
  have replies (u : State) (tables : u.tables = s.tables) (lost : (u.cursor c).lost = (s.cursor c).lost)
      (es : List Entry) : readReply c es u = (.record 0xC8 (fields es), u) := by
    simp only [readReply, tables, lost, fields, bytes]
    rfl
  refine ⟨?_, fun inRange => ?_⟩
  · let es := takenEntries c count.toNat s
    let t := afterTake c count.toNat s
    obtain ⟨length, places⟩ := entriesFrom_retained fit (Nat.min_le_right count.toNat (unread s c)) bound
    have effect : t = _ := afterTake_eq (n := es.length) rfl
    have seen : takenEntries c count.toNat e = es := entriesFrom_of_store (s := s) (t := e) rfl c.ring _ _
    have linked : afterTake c count.toNat e = t.setLink e.link := by
      rw [effect]
      exact afterTake_eq (s := e) (congrArg List.length seen)
    have lost : (t.cursor c).lost = (s.cursor c).lost := by
      rw [effect]
      have stands := congrArg Cursor.lost
        (setCursor_cursor_same c { s.cursor c with r := (s.cursor c).r + BitVec.ofNat 32 es.length } s)
      exact stands
    have acts : doReadTake cursor count e = (.record 0xC8 (fields es), t.setLink e.link) := by
      rw [takes, if_pos (by exact attached), seen, linked]
      exact replies (t.setLink e.link) (by rw [effect]; rfl) lost es
    refine ⟨es, t, length, fun k hk => places k (length ▸ hk), ?_, ?_⟩
    · exact answers_of_act runTake taken (by decide) acts (by rw [effect]; rfl)
    · have space : freeSpace t .loc =
          freeSpace (s.setCursor c { s.cursor c with r := (s.cursor c).r + BitVec.ofNat 32 es.length }) .loc := by
        rw [effect]
        rfl
      rw [space, effect, testsLock_hostCursor (hostCursor_cases named)]
      obtain ⟨_, rfl⟩ | ⟨_, rfl⟩ := which
      · have other : (CursorId.hostT == CursorId.hostL) = false := rfl
        simp only [other, Bool.false_and, Bool.and_false]
      · simp only [Bool.and_comm (decide (0 < es.length))]
        rfl
  · let es := peekedEntries c offset.toNat count.toNat s
    obtain ⟨length, places⟩ := entriesFrom_retained fit
      (Nat.min_le_right count.toNat (unread s c - offset.toNat)) ((Nat.sub_le _ _).trans bound)
    have seen : peekedEntries c offset.toNat count.toNat e = es := entriesFrom_of_store (s := s) (t := e) rfl c.ring _ _
    have acts : doReadPeek cursor offset count e = (.record 0xC8 (fields es), s.setLink e.link) := by
      rw [peeks inRange, if_pos (by exact attached), seen]
      exact replies e rfl rfl es
    exact ⟨es, length, fun k hk => places k (length ▸ hk), answers_of_act runPeek taken (by decide) acts rfl⟩

end Sys2Proof.Machine
end

section
/-! EVENT SETUP and EVENT CLEAR (R177, R200, R201): what each leaves of every event, and the claim O36. -/

namespace Sys2Proof.Machine

/-! ## EVENT SETUP (R200) -/

theorem eventOf_eq_iff {b : Byte} (small : b.toNat ≤ 15) (f : Fin 16) : eventOf b = f ↔ b.toNat = f.val := by
  rw [Fin.ext_iff]
  have value : (eventOf b).val = b.toNat % 16 := rfl
  omega

theorem eventSettingBad_iff (x : Byte × Byte × Byte) :
    eventSettingBad x = true ↔ 15 < x.1.toNat ∨ 1 < x.2.1.toNat ∨ 3 < x.2.2.toNat := by
  simp [eventSettingBad, or_assoc]

/-- A setting that a command carries for one event. -/
def EventRecord.setTo (r : EventRecord) (x : Byte × Byte × Byte) : EventRecord :=
  { r with enabled := x.2.1 == 1, priority := x.2.2.toNat }

/-- The last setting for an event decides. -/
theorem applyEventSettings_getElem {es : List (Byte × Byte × Byte)} (small : ∀ x ∈ es, x.1.toNat ≤ 15) (s : State)
    (f : Fin 16) :
    (applyEventSettings es s).events[f] =
      match (es.filter fun x => x.1.toNat == f.val).getLast? with
      | none => s.events[f]
      | some x => s.events[f].setTo x := by
  induction es generalizing s with
  | nil => rfl
  | cons e es ih =>
    have one : (applyEventSetting e s).events[f] =
        if e.1.toNat == f.val then s.events[f].setTo e else s.events[f] := by
      refine (getElem_set_event _ _ _ _).trans ?_
      by_cases mine : e.1.toNat = f.val
      · have same := (eventOf_eq_iff (small e List.mem_cons_self) f).2 mine
        simp only [mine, same, beq_self_eq_true, if_true]
        rfl
      · have other : f ≠ eventOf e.1 := fun eq => mine ((eventOf_eq_iff (small e List.mem_cons_self) f).1 eq.symm)
        rw [if_neg other, if_neg (by simpa using mine)]
    have later := ih (fun x hx => small x (List.mem_cons_of_mem e hx)) (applyEventSetting e s)
    refine later.trans ?_
    rw [one, List.filter_cons]
    by_cases mine : (e.1.toNat == f.val) = true
    · simp only [if_pos mine, List.getLast?_cons]
      cases (es.filter fun x => x.1.toNat == f.val).getLast? <;> rfl
    · simp only [if_neg mine]

theorem applyEventSettings_setLink (es : List (Byte × Byte × Byte)) (l : Link) (s : State) :
    applyEventSettings es (s.setLink l) = (applyEventSettings es s).setLink l := by
  induction es generalizing s with
  | nil => rfl
  | cons e es ih => exact ih (applyEventSetting e s)

theorem applyEventSettings_events (es : List (Byte × Byte × Byte)) (s : State) :
    applyEventSettings es s = { s with events := (applyEventSettings es s).events } := by
  induction es generalizing s with
  | nil => rfl
  | cons e es ih => exact ih (applyEventSetting e s)

/-! ## EVENT CLEAR (R201) -/

theorem clearEvents_getElem (es : List (Fin 16)) (s : State) (f : Fin 16) :
    (clearEvents es s).events[f] = if f ∈ es then s.events[f].cleared else s.events[f] := by
  induction es generalizing s with
  | nil => rfl
  | cons e es ih =>
    have one : (clearEvent e s).events[f] = if f = e then s.events[e].cleared else s.events[f] :=
      getElem_set_event _ _ _ _
    refine (ih (clearEvent e s)).trans ?_
    rw [one]
    by_cases mine : f = e
    · simp [mine, EventRecord.cleared]
    · simp [mine]

theorem clearEvents_setLink (es : List (Fin 16)) (l : Link) (s : State) :
    clearEvents es (s.setLink l) = (clearEvents es s).setLink l := by
  induction es generalizing s with
  | nil => rfl
  | cons e es ih => exact ih (clearEvent e s)

theorem clearEvents_events (es : List (Fin 16)) (s : State) :
    clearEvents es s = { s with events := (clearEvents es s).events } := by
  induction es generalizing s with
  | nil => rfl
  | cons e es ih => exact ih (clearEvent e s)

theorem mem_eventsNamed {p : List Byte} (small : ∀ b ∈ p, b.toNat ≤ 15) (f : Fin 16) :
    f ∈ eventsNamed p ↔ p = [] ∨ byte f.val ∈ p := by
  have value : (byte f.val).toNat = f.val := by simp [byte]; omega
  unfold eventsNamed
  by_cases all : p = []
  · simp [all]
  · rw [if_neg all, List.mem_map, or_iff_right all]
    constructor
    · rintro ⟨b, hb, eq⟩
      have same : b = byte f.val := BitVec.eq_of_toNat_eq (((eventOf_eq_iff (small b hb) f).1 eq).trans value.symm)
      rwa [← same]
    · intro named
      exact ⟨_, named, (eventOf_eq_iff (small _ named) f).2 value⟩

theorem clearNamed_setLink (p : List Byte) (l : Link) (s : State) :
    clearNamed p (s.setLink l) = (clearNamed p s).setLink l := by
  unfold clearNamed
  simp only [clearEvents_setLink, raiseSenseChange_setLink, State.setLink_events]
  split <;> rfl

theorem clearNamed_events (p : List Byte) (s : State) :
    clearNamed p s = { s with events := (clearNamed p s).events } := by
  unfold clearNamed
  simp only
  rw [clearEvents_events]
  split
  · rw [raiseSenseChange_eq]
  · rfl

/-- What an EVENT CLEAR leaves of one event (R177, R201). -/
theorem clearNamed_getElem {p : List Byte} (small : ∀ b ∈ p, b.toNat ≤ 15) (s : State) (f : Fin 16) :
    (clearNamed p s).events[f] =
      if p = [] ∨ byte f.val ∈ p then
        if f = 13 ∧ s.events[13].pending = true ∧ ∃ k : Fin 6, s.sense[k].debounced ≠ s.sense[k].reported then
          { s.events[f] with pending := true, count := 1 }
        else { s.events[f] with pending := false, count := 0 }
      else s.events[f] := by
  have named := mem_eventsNamed small
  have sense : (clearEvents (eventsNamed p) s).sense = s.sense := by rw [clearEvents_events]
  have cleared := clearEvents_getElem (eventsNamed p) s f
  simp only [named f] at cleared
  unfold clearNamed
  simp only
  by_cases again : s.events[evSenseChange].pending = true ∧ (13 : Fin 16) ∈ eventsNamed p
  · have due : (s.events[evSenseChange].pending && (eventsNamed p).contains evSenseChange) = true := by
      simpa using again
    rw [if_pos due, raiseSenseChange_events, sense, cleared]
    by_cases last : f = 13
    · subst last
      have mine := (named 13).1 again.2
      rw [if_pos mine, if_pos mine]
      simp only [EventRecord.cleared, true_and]
      refine if_congr ?_ rfl rfl
      exact (and_iff_right again.1).symm
    · simp only [last, false_and, if_false]
      rfl
  · have idle : ¬ (s.events[evSenseChange].pending && (eventsNamed p).contains evSenseChange) = true := by
      simpa using again
    rw [if_neg idle, cleared]
    by_cases mine : p = [] ∨ byte f.val ∈ p
    · rw [if_pos mine, if_pos mine]
      refine (if_neg ?_).symm
      rintro ⟨rfl, pending, _⟩
      exact again ⟨pending, (named 13).2 mine⟩
    · rw [if_neg mine, if_neg mine]

/-! ## The commands -/

/-- Settles O36: the value check of each, then what it leaves of every event. -/
theorem eventCommands : Obligations.EventCommands := by
  unfold Obligations.EventCommands
  refine ⟨fun s es taken few => ?_, fun s p taken few => ?_⟩
  · intro cmd bad
    let e := emptyBuffer s
    let p : List Byte := es.flatMap fun e => [e.1, e.2.1, e.2.2]
    have run : exec cmd s = finish (hostRecord p.length (doEventSetup p) s) := rfl
    have short : p.length ≤ 64 := by
      rw [triples_length (triples_flatMap es)]
      omega
    have check : es.any eventSettingBad = true ↔ bad := by
      simp only [List.any_eq_true, eventSettingBad_iff]
      rfl
    have acts : doEventSetup p e =
        if es.any eventSettingBad then refuse 0x60 statusRange e
        else (replyTo 0x60 statusOk [], applyEventSettings es e) := by
      simp only [doEventSetup, p, triples_flatMap, if_neg (Nat.not_lt.2 few)]
    refine ⟨fun refused => ?_, fun fine => ?_⟩
    · exact refuses_of_act (kind := 0x60) run taken short (acts.trans (if_pos (check.2 refused)))
    · have effect := applyEventSettings_events es s
      have linked : applyEventSettings es e = (applyEventSettings es s).setLink e.link :=
        applyEventSettings_setLink es e.link s
      rw [if_neg (mt check.1 fine), linked] at acts
      refine ⟨applyEventSettings es s, answers_of_act run taken short acts (by rw [effect]), effect, fun f => ?_⟩
      have small : ∀ x ∈ es, x.1.toNat ≤ 15 := fun x hx =>
        Nat.not_lt.1 fun large => fine ⟨x, hx, .inl large⟩
      rw [applyEventSettings_getElem small]
      rfl
  · intro cmd bad differ
    let e := emptyBuffer s
    have run : exec cmd s = finish (hostRecord p.length (doEventClear p) s) := rfl
    have check : (p.any fun b => decide (15 < b.toNat)) = true ↔ bad := by
      simp only [List.any_eq_true, decide_eq_true_eq]
      rfl
    have acts : doEventClear p e =
        if p.any fun b => decide (15 < b.toNat) then refuse 0x61 statusRange e
        else (replyTo 0x61 statusOk [], clearNamed p e) :=
      if_neg (Nat.not_lt.2 few)
    refine ⟨fun refused => ?_, fun fine => ?_⟩
    · exact refuses_of_act (kind := 0x61) run taken (by omega) (acts.trans (if_pos (check.2 refused)))
    · have effect := clearNamed_events p s
      have linked : clearNamed p e = (clearNamed p s).setLink e.link := clearNamed_setLink p e.link s
      rw [if_neg (mt check.1 fine), linked] at acts
      refine ⟨clearNamed p s, answers_of_act run taken (by omega) acts (by rw [effect]), effect, fun f => ?_⟩
      exact clearNamed_getElem (fun b hb => Nat.not_lt.1 fun large => fine ⟨b, hb, large⟩) s f

end Sys2Proof.Machine
end

section
/-! Text into SEND and LOCAL (R15, R29, R30, R35 to R37): the shift code of a plane, one character with its shifts,
the host's writes character by character, and the claims O29 and O30. -/

namespace Sys2Proof.Machine

/-- The first element of a list in the order of a key is the one that passes with none below it. -/
theorem find?_eq_some_iff_least {α : Type} {key : α → Nat} (inj : Function.Injective key) {l : List α}
    (sorted : l.Pairwise fun a b => key a < key b) {p : α → Bool} {x : α} (mem : x ∈ l) :
    l.find? p = some x ↔ p x = true ∧ ∀ y ∈ l, key y < key x → ¬ p y = true := by
  have least {z : α} (found : l.find? p = some z) : p z = true ∧ ∀ y ∈ l, key y < key z → ¬ p y = true := by
    obtain ⟨passes, before, after, rfl, failed⟩ := List.find?_eq_some_iff_append.1 found
    refine ⟨passes, fun y hy below => ?_⟩
    rw [List.pairwise_append, List.pairwise_cons] at sorted
    rcases List.mem_append.1 hy with front | back
    · simpa using failed y front
    · rcases List.mem_cons.1 back with rfl | later
      · exact absurd below (lt_irrefl _)
      · exact absurd (sorted.2.1.1 y later) (Nat.lt_asymm below)
  refine ⟨least, fun ⟨passes, first⟩ => ?_⟩
  cases found : l.find? p with
  | none => exact absurd passes (List.find?_eq_none.1 found x mem)
  | some y =>
    have up : ¬ key y < key x := fun below =>
      first y (List.mem_of_find?_eq_some found) below (List.find?_some found)
    have down : ¬ key x < key y := fun below => (least found).2 x mem below passes
    rw [inj (by omega : key y = key x)]

/-! ## The shift code of a plane (R29) -/

/-- The code has the plane's shift function in both planes. -/
def movesTo (t : Tables) (q : Plane) (d : Code) : Prop :=
  (lookup t .letters d).fn = q.shiftFn ∧ (lookup t .figures d).fn = q.shiftFn

theorem mem_allCodes (d : Code) : d ∈ allCodes :=
  List.mem_map.2 ⟨d.toNat, List.mem_range.2 d.isLt, BitVec.eq_of_toNat_eq (by simp)⟩

theorem shiftCode_eq_none_iff (t : Tables) (q : Plane) : shiftCode t q = none ↔ ∀ d, ¬ movesTo t q d := by
  simp only [shiftCode, List.find?_eq_none, Bool.and_eq_true, beq_iff_eq]
  exact ⟨fun h d => h d (mem_allCodes d), fun h d _ => h d⟩

/-- The shift code is the lowest one that has the function in both planes. -/
theorem shiftCode_eq_some_iff (t : Tables) (q : Plane) (d : Code) :
    shiftCode t q = some d ↔ movesTo t q d ∧ ∀ e : Code, e.toNat < d.toNat → ¬ movesTo t q e := by
  have sorted : allCodes.Pairwise fun a b => a.toNat < b.toNat := by decide
  unfold shiftCode
  rw [find?_eq_some_iff_least (fun _ _ => BitVec.eq_of_toNat_eq) sorted (mem_allCodes d)]
  simp only [Bool.and_eq_true, beq_iff_eq, mem_allCodes, true_imp_iff]
  rfl

/-! ## One character with its shifts (R13, R30, R35) -/

theorem neutral_iff (t : Tables) (c : Code) : neutral t c = true ↔ lookup t .letters c = lookup t .figures c :=
  beq_iff_eq

section Character

variable {i : RingId} {o : Origin} {c : Code} {s : State}

/-- One entry of text written, and the writer plane after it. -/
def written (i : RingId) (o : Origin) (d : Code) (q : Plane) (u : State) : State :=
  setWriterPlane i q (appendEntry i (.char d q (textOrigin i o) none) u)

theorem putChar_of_text {need : Option Plane} {xs : List (Code × Plane)}
    (text : textFor s (writerPlane s i) need c = xs) :
    putChar i o need c s = if xs.length ≤ freeSpace s i then some (putText i o xs s) else none := by
  simp only [putChar, text]

theorem textFor_of_plain {p : Plane} {need : Option Plane}
    (plain : need = none ∨ need = some p ∨ neutral s.tables c = true) : textFor s p need c = [(c,
        s.planeAfter p c)] := by
  cases need with
  | none => rfl
  | some q =>
    refine if_pos ?_
    obtain h | h | h := plain
    · cases h
    · exact .inl (Option.some.inj h).symm
    · exact .inr h

theorem textFor_of_shifted {p q : Plane} (other : q ≠ p) (moved : ¬ neutral s.tables c = true) :
    textFor s p (some q) c =
      match shiftCode s.tables q with
      | none => [(c, s.planeAfter q c)]
      | some sc => if sc = c then [(c, s.planeAfter p c)] else [(sc, q), (c, s.planeAfter q c)] :=
  if_neg (by simp [Ne.symm other, moved])

end Character

/-- Settles O29: the needed plane against the writer's plane, then the shift code by `shiftCode_eq_some_iff`. -/
theorem shiftInsertion : Obligations.ShiftInsertion := by
  unfold Obligations.ShiftInsertion
  intro i o need c s text p isNeutral moves shift after put alone
  have origin : (if i = .loc then some o else none) = textOrigin i o := by cases i <;> rfl
  have puts (d : Code) (q : Plane) (u : State) : put d q u = written i o d q u := by
    simp only [put, origin]
    rfl
  have follows (q : Plane) : after q = s.planeAfter q c := rfl
  have one (q : Plane) (text : textFor s p need c = [(c, s.planeAfter q c)]) : putChar i o need c s = alone q := by
    simp only [putChar_of_text text, alone, puts, follows]
    rfl
  refine ⟨fun q sc needs other moved code ne => ?_, fun q needs other moved nowhere => ?_, fun plain => ?_⟩
  · have found : shiftCode s.tables q = some sc := (shiftCode_eq_some_iff s.tables q sc).2 code
    have pair : textFor s p need c = [(sc, q), (c, s.planeAfter q c)] := by
      rw [needs, textFor_of_shifted other (mt (neutral_iff _ _).1 moved), found]
      exact if_neg ne
    simp only [putChar_of_text pair, puts, follows]
    rfl
  · refine one q ?_
    have found : shiftCode s.tables q = none := (shiftCode_eq_none_iff s.tables q).2 nowhere
    rw [needs, textFor_of_shifted other (mt (neutral_iff _ _).1 moved), found]
  · refine one p ?_
    by_cases easy : need = none ∨ need = some p ∨ neutral s.tables c = true
    · exact textFor_of_plain easy
    · simp only [not_or] at easy
      obtain ⟨notNone, notSame, moved⟩ := easy
      obtain h | h | h | ⟨q, needs, code⟩ := plain
      · exact absurd h notNone
      · exact absurd h notSame
      · exact absurd ((neutral_iff _ _).2 h) moved
      · have found : shiftCode s.tables q = some c := (shiftCode_eq_some_iff s.tables q c).2 code
        rw [needs, textFor_of_shifted (fun same => notSame (by rw [needs, same])) moved, found]
        exact if_pos rfl

end Sys2Proof.Machine
end

section
/-! WRITE TEXT and WRITE CODES (R15, R36, R37, R196): the characters in order up to the first that does not fit whole,
and the claim O30. -/

namespace Sys2Proof.Machine

/-! ## The code of a host character (R36) -/

theorem codeIndex_index (j : Fin 64) : codeIndex (indexPlane j) (indexCode j) = j := by
  rw [Fin.ext_iff]
  unfold indexPlane indexCode codeIndex
  by_cases low : j.val < 32
  · simp only [low, if_true, BitVec.toNat_ofNat]
    omega
  · simp only [low, if_false, BitVec.toNat_ofNat]
    omega

theorem index_eq_iff (j : Fin 64) (p : Plane) (c : Code) :
    indexPlane j = p ∧ indexCode j = c ↔ j = codeIndex p c := by
  constructor
  · rintro ⟨rfl, rfl⟩
    exact (codeIndex_index j).symm
  · rintro rfl
    have small : c.toNat < 32 := c.isLt
    cases p with
    | letters =>
      have low : (codeIndex .letters c).val < 32 := small
      refine ⟨if_pos low, BitVec.eq_of_toNat_eq ?_⟩
      simp [indexCode, codeIndex]
    | figures =>
      have high : ¬ (codeIndex .figures c).val < 32 := by simp [codeIndex]
      refine ⟨if_neg high, BitVec.eq_of_toNat_eq ?_⟩
      simp only [indexCode, codeIndex, BitVec.toNat_ofNat]
      omega

/-- The table's first entry with the host character, LETTERS before FIGURES. -/
theorem hostCharacter_eq_some_iff (t : Tables) (h : Byte) (p : Plane) (c : Code) :
    hostCharacter t h = some (p, c) ↔
      h ≠ 0 ∧ t.codes[codeIndex p c].host = h ∧ ∀ j : Fin 64, j < codeIndex p c → t.codes[j].host ≠ h := by
  unfold hostCharacter
  by_cases zero : h = 0
  · simp [zero]
  · have sorted : (List.finRange 64).Pairwise fun a b => a.val < b.val := (List.sortedLT_finRange 64).pairwise
    have first := find?_eq_some_iff_least Fin.val_injective sorted (List.mem_finRange (codeIndex p c))
      (p := fun i => t.codes[i].host == h)
    simp only [beq_iff_eq, List.mem_finRange, true_imp_iff] at first
    rw [if_neg zero, and_iff_right zero, Option.map_eq_some_iff]
    simp only [Prod.mk.injEq, index_eq_iff, exists_eq_right]
    exact first

/-! ## Text under another link -/

theorem putText_setLink (i : RingId) (o : Origin) (xs : List (Code × Plane)) (l : Link) (s : State) :
    putText i o xs (s.setLink l) = (putText i o xs s).setLink l := by
  induction xs generalizing s with
  | nil => rfl
  | cons x xs ih =>
    have one : setWriterPlane i x.2 (appendEntry i (.char x.1 x.2 (textOrigin i o) none) (s.setLink l))
        = (setWriterPlane i x.2 (appendEntry i (.char x.1 x.2 (textOrigin i o) none) s)).setLink l := by
      cases i <;> rfl
    simp only [putText, one, ih]

theorem putChar_setLink (i : RingId) (o : Origin) (need : Option Plane) (c : Code) (l : Link) (s : State) :
    putChar i o need c (s.setLink l) = (putChar i o need c s).map (State.setLink · l) := by
  have text : textFor (s.setLink l) (writerPlane (s.setLink l) i) need c = textFor s (writerPlane s i) need c := by
    cases i <;> rfl
  have space : freeSpace (s.setLink l) i = freeSpace s i := rfl
  simp only [putChar, text, putText_setLink, space]
  split <;> rfl

/-! ## The characters in order (R15, R36, R37) -/

/-- One character of a WRITE TEXT: skipped, written whole, or refused for want of space. -/
def textStep (t : Tables) (i : RingId) (u : State) (h : Byte) : Option State :=
  match hostCharacter t h with
  | none => some u
  | some (plane, c) => putChar i .host (some plane) c u

/-- One byte of a WRITE CODES. -/
def codeStep (i : RingId) (u : State) (b : Byte) : Option State := putChar i .host (codeRequest b) (codeOfByte b) u

/-- A list of characters written up to the first that does not fit. -/
structure WrittenUpTo (step : State → Byte → Option State) (hs : List Byte) (s : State) (n : Nat) (t : State) :
    Prop where
  within : n ≤ hs.length
  steps : (hs.take n).foldlM step s = some t
  stops : ∀ h, hs[n]? = some h → step t h = none
  now : t.now = s.now

/-- A step that agrees on the characters of the list writes the same. -/
theorem WrittenUpTo.congr {step step' : State → Byte → Option State} {hs : List Byte} {s t : State} {n : Nat}
    (upTo : WrittenUpTo step hs s n t) (same : ∀ u, ∀ h ∈ hs, step u h = step' u h) : WrittenUpTo step' hs s n t := by
  have fold (l : List Byte) (sub : ∀ h ∈ l, h ∈ hs) (u : State) : l.foldlM step u = l.foldlM step' u := by
    induction l generalizing u with
    | nil => rfl
    | cons h l ih =>
      simp only [List.foldlM_cons, same u h (sub h List.mem_cons_self)]
      exact congrArg _ (funext fun v => ih (fun x hx => sub x (List.mem_cons_of_mem h hx)) v)
  refine ⟨upTo.within, ?_, fun h at_place => ?_, upTo.now⟩
  · rw [← fold _ (fun h mem => List.mem_of_mem_take mem)]
    exact upTo.steps
  · rw [← same t h (List.mem_of_getElem? at_place)]
    exact upTo.stops h at_place

theorem WrittenUpTo.nil {step : State → Byte → Option State} (s : State) : WrittenUpTo step [] s 0 s :=
  ⟨Nat.le_refl 0, rfl, nofun, rfl⟩

theorem WrittenUpTo.refused {step : State → Byte → Option State} {h : Byte} {hs : List Byte} {s : State}
    (stop : step s h = none) : WrittenUpTo step (h :: hs) s 0 s :=
  ⟨Nat.zero_le _, rfl, fun x first => by cases first; exact stop, rfl⟩

theorem WrittenUpTo.cons {step : State → Byte → Option State} {h : Byte} {hs : List Byte} {s u t : State} {n : Nat}
    (first : step s h = some u) (now : u.now = s.now) (rest : WrittenUpTo step hs u n t) :
    WrittenUpTo step (h :: hs) s (n + 1) t :=
  ⟨Nat.succ_le_succ rest.within, by simpa [List.take_succ_cons, List.foldlM_cons, first] using rest.steps,
    rest.stops, rest.now.trans now⟩

theorem writeHostText_eq {i : RingId} {t : Tables} (l : Link) (hs : List Byte) (a k : Nat) (s : State)
    (tables : s.tables = t) :
    let known (h : Byte) : Bool := (hostCharacter t h).isSome
    ∃ n u, WrittenUpTo (textStep t i) hs s n u
      ∧ writeHostText i hs a k (s.setLink l) =
        { accepted := a + (hs.take n).countP known, skipped := k + (hs.take n).countP fun h => !known h
          whole := decide (n = hs.length), state := u.setLink l } := by
  intro known
  induction hs generalizing a k s with
  | nil => exact ⟨0, s, .nil s, rfl⟩
  | cons h hs ih =>
    have look : hostCharacter (s.setLink l).tables h = hostCharacter t h := by rw [← tables]; rfl
    cases code : hostCharacter t h with
    | none =>
      obtain ⟨n, u, upTo, result⟩ := ih a (k + 1) s tables
      have unknown : known h = false := by simp [known, code]
      refine ⟨n + 1, u, .cons (by simp [textStep, code]) rfl upTo, ?_⟩
      simp only [writeHostText, look, code, result, List.take_succ_cons, List.countP_cons, unknown, List.length_cons,
        Nat.add_right_cancel_iff, Bool.not_false, if_true, Bool.false_eq_true, if_false, Nat.add_zero]
      rw [Nat.add_right_comm, Nat.add_assoc]
    | some pc =>
      obtain ⟨plane, c⟩ := pc
      have one : textStep t i s h = putChar i .host (some plane) c s := by simp [textStep, code]
      cases put : putChar i .host (some plane) c s with
      | none =>
        refine ⟨0, s, .refused (one.trans put), ?_⟩
        simp only [writeHostText, look, code, putChar_setLink, put]
        simp
      | some v =>
        have frame := putChar_frame put
        obtain ⟨n, u, upTo, result⟩ := ih (a + 1) k v (by rw [frame]; exact tables)
        have isKnown : known h = true := by simp [known, code]
        refine ⟨n + 1, u, .cons (one.trans put) (by rw [frame]; rfl) upTo, ?_⟩
        simp only [writeHostText, look, code, putChar_setLink, put, Option.map_some, result, List.take_succ_cons,
          List.countP_cons, isKnown, List.length_cons, Nat.add_right_cancel_iff, Bool.not_true, if_true,
          Bool.false_eq_true, if_false, Nat.add_zero]
        rw [Nat.add_right_comm, Nat.add_assoc]

theorem writeHostCodes_eq {i : RingId} (l : Link) (bs : List Byte) (a : Nat) (s : State) :
    ∃ n u, WrittenUpTo (codeStep i) bs s n u
      ∧ writeHostCodes i bs a (s.setLink l) =
        { accepted := a + n, skipped := 0, whole := decide (n = bs.length), state := u.setLink l } := by
  induction bs generalizing a s with
  | nil => exact ⟨0, s, .nil s, rfl⟩
  | cons b bs ih =>
    cases put : putChar i .host (codeRequest b) (codeOfByte b) s with
    | none =>
      refine ⟨0, s, .refused put, ?_⟩
      simp only [writeHostCodes, putChar_setLink, put]
      simp
    | some v =>
      have frame := putChar_frame put
      obtain ⟨n, u, upTo, result⟩ := ih (a + 1) v
      refine ⟨n + 1, u, .cons put (by rw [frame]; rfl) upTo, ?_⟩
      simp only [writeHostCodes, putChar_setLink, put, Option.map_some, result, List.length_cons,
        Nat.add_right_cancel_iff]
      rw [Nat.add_assoc, Nat.add_comm 1]

/-! ## The commands (R196) -/

theorem ringOf_of_large {b : Byte} (h : 1 < b.toNat) : ringOf b = none := by
  unfold ringOf
  rw [if_neg (by rintro rfl; simp at h), if_neg (by rintro rfl; simp at h)]

theorem ringOf_eq_some {b : Byte} {i : RingId} (h : (b = 0 ∧ i = .send) ∨ (b = 1 ∧ i = .loc)) : ringOf b = some i := by
  obtain ⟨rfl, rfl⟩ | ⟨rfl, rfl⟩ := h <;> rfl

theorem doWriteText_of_bad_ring {ring : Byte} {p : List Byte} (few : p.length ≤ 60) (h : ringOf ring = none) (s : State) :
    doWriteText (ring :: p) s = refuse 0x40 statusRange s := by
  simp [doWriteText, Nat.not_lt.2 few, h]

theorem doWriteCodes_of_bad_ring {ring : Byte} {p : List Byte} (few : p.length ≤ 60) (h : ringOf ring = none)
    (s : State) : doWriteCodes (ring :: p) s = refuse 0x41 statusRange s := by
  simp [doWriteCodes, Nat.not_lt.2 few, h]

theorem doWriteText_of_ring {ring : Byte} {i : RingId} {p : List Byte} (few : p.length ≤ 60)
    (h : ringOf ring = some i) (s : State) :
    doWriteText (ring :: p) s =
      (replyTo 0x40 (writeStatus (writeHostText i p 0 0 s).whole)
        [byte (writeHostText i p 0 0 s).accepted, byte (writeHostText i p 0 0 s).skipped],
        (writeHostText i p 0 0 s).state) := by
  simp [doWriteText, Nat.not_lt.2 few, h]

theorem doWriteCodes_of_ring {ring : Byte} {i : RingId} {p : List Byte} (few : p.length ≤ 60)
    (h : ringOf ring = some i) (s : State) :
    doWriteCodes (ring :: p) s =
      if p.any fun b => decide (95 < b.toNat) then refuse 0x41 statusRange s
      else
        (replyTo 0x41 (writeStatus (writeHostCodes i p 0 s).whole) [byte (writeHostCodes i p 0 s).accepted],
          (writeHostCodes i p 0 s).state) := by
  simp only [doWriteCodes, if_neg (Nat.not_lt.2 few), h]

theorem writeStatus_decide (q : Prop) [Decidable q] : writeStatus (decide q) = if q then 0 else 2 := by
  by_cases h : q <;> simp [writeStatus, h]

/-- A byte in range carries its plane request in bits 5 and 6 (R37). -/
theorem codeRequest_eq {b : Byte} (small : b.toNat ≤ 95) :
    codeRequest b = if b.toNat < 32 then none else if b.toNat < 64 then some .letters else some .figures := by
  unfold codeRequest
  split
  · rw [if_neg (by omega), if_pos (by omega)]
  · split
    · rw [if_neg (by omega), if_neg (by omega)]
    · rw [if_pos (by omega)]

/-- Settles O30: the ring and value checks, then `writeHostText_eq` and `writeHostCodes_eq`. -/
theorem hostWrites : Obligations.HostWrites := by
  unfold Obligations.HostWrites
  intro ring p s taken few maps text coded known
  let e := emptyBuffer s
  have runText : exec (.writeText (ring :: p)) s =
      finish (hostRecord (ring :: p).length (doWriteText (ring :: p)) s) := rfl
  have runCodes : exec (.writeCodes (ring :: p)) s =
      finish (hostRecord (ring :: p).length (doWriteCodes (ring :: p)) s) := rfl
  have short : (ring :: p).length ≤ 64 := by rw [List.length_cons]; omega
  refine ⟨hostCharacter_eq_some_iff s.tables, fun large => ⟨?_, ?_⟩, fun small high => ?_, fun i which => ⟨?_,
      fun low => ?_⟩⟩
  · exact refuses_of_act (kind := 0x40) runText taken short (doWriteText_of_bad_ring few (ringOf_of_large large) e)
  · exact refuses_of_act (kind := 0x41) runCodes taken short (doWriteCodes_of_bad_ring few (ringOf_of_large large) e)
  · have named : ∃ i, ringOf ring = some i := by
      obtain rfl | rfl := byte_eq_zero_or_one small
      · exact ⟨.send, rfl⟩
      · exact ⟨.loc, rfl⟩
    obtain ⟨i, named⟩ := named
    refine refuses_of_act (kind := 0x41) runCodes taken short ((doWriteCodes_of_ring few named e).trans (if_pos ?_))
    simpa using high
  · obtain ⟨n, t, upTo, result⟩ := writeHostText_eq (i := i) e.link p 0 0 s rfl
    refine ⟨n, t, upTo.within, upTo.steps, upTo.stops, ?_⟩
    have acts := doWriteText_of_ring few (ringOf_eq_some which) e
    have run : writeHostText i p 0 0 e = _ := result
    rw [run, writeStatus_decide, Nat.zero_add, Nat.zero_add] at acts
    exact answers_of_act (kind := 0xC0) runText taken short acts upTo.now
  · obtain ⟨n, t, upTo, result⟩ := writeHostCodes_eq (i := i) e.link p 0 s
    have asBytes : WrittenUpTo (coded i) p s n t := upTo.congr fun u b hb => by
      unfold codeStep
      rw [codeRequest_eq (low b hb)]
      rfl
    have acts := doWriteCodes_of_ring few (ringOf_eq_some which) e
    have run : writeHostCodes i p 0 e = _ := result
    rw [run, writeStatus_decide, Nat.zero_add] at acts
    exact ⟨n, t, asBytes.within, asBytes.steps, asBytes.stops,
      answers_of_act (kind := 0xC1) runCodes taken short (acts.trans (if_neg (by simpa using low))) upTo.now⟩

end Sys2Proof.Machine
end

section
/-! The instants of the line that come by themselves (R47, R64, R65, R81), the end of a character and the breaks (R60,
R80, R97, R98, R106), and the claims O42 and O45. -/

namespace Sys2Proof.Machine

/-! ## The claim and the thresholds -/

theorem echoFailed_eq (s : State) :
    echoFailed s = haltedFor .collision { s with transmitter := { s.transmitter with echo := none } } := by
  unfold echoFailed
  rw [haltSending_eq]
  rfl

theorem exec_claimWithdrawn {c : Code} {ends : Nat} {s : State}
    (claim : s.transmitter.echo = some { code := c, claim := some ends }) :
    exec .claimWithdrawn s = .next (chooseOutgoing (echoFailed (s.upTo ends))) :=
  happen_of_some (by simp [doClaimWithdrawn, claim]) s

/-- The break threshold of a run noted, at its instant. -/
def breakReached (r : SpacingRun) (s : State) : State :=
  { s.upTo (r.start + s.setup.line.breakUnits * s.setup.line.unitLength) with
    receiver := { s.receiver with run := some { r with breakDone := true } } }

theorem exec_breakThreshold {r : SpacingRun} {s : State} (run : s.receiver.run = some r) (first : r.breakDone = false) :
    exec .breakThresholdReached s =
      .next (chooseOutgoing
        (if s.controller.state = .established then
          (if s.transmitter.state.isSending then
            haltedFor .breakReceived { breakReached r s with events := occurs 3 none s }
          else { breakReached r s with events := occurs 3 none s })
        else breakReached r s)) := by
  refine happen_of_some ?_ s
  unfold doBreakThreshold
  simp only [run, first, raise_eq, haltSending_eq]
  by_cases line : s.controller.state = .established
  · rw [if_pos line]
    exact if_pos line
  · rw [if_neg line]
    exact if_neg line

/-- The clear threshold of a run noted, at its instant. -/
def clearReached (r : SpacingRun) (s : State) : State :=
  { s.upTo (r.start + s.setup.line.clearMs * 1000) with
    receiver := { s.receiver with run := some { r with clearDone := true } } }

theorem exec_clearThreshold {r : SpacingRun} {s : State} (run : s.receiver.run = some r) (first : r.clearDone = false) :
    exec .clearThresholdReached s = .next (chooseOutgoing (clearReport (clearReached r s))) := by
  refine happen_of_some ?_ s
  unfold doClearThreshold
  simp only [run, first]
  rfl

theorem clearReport_of_unanswered {s : State} (line : s.controller.state = .unanswered) :
    clearReport s = { freed s with events := occurs 2 (some 2) s } := by
  have free : enterFree s = freed s := enterFree_of_unconnected (by rw [line]; rfl) (by simp [line])
  unfold clearReport
  simp only [line, free, raiseCleared_eq]
  rfl

theorem clearReport_of_connected {s : State} (line : s.controller.state.connected = true) :
    clearReport s = { freed (closeMarker s) with events := occurs 2 (some 0) (closeMarker s) } := by
  have free : enterFree s = freed (closeMarker s) := enterFree_of_connected (.inl line)
  have cleared : raiseCleared causeFar (enterFree s) = { freed (closeMarker s) with events := occurs 2 (some 0) (closeMarker s) } := by
    rw [free, raiseCleared_eq]
    rfl
  unfold clearReport
  cases state : s.controller.state with
  | waking => exact cleared
  | established => exact cleared
  | refusing => exact cleared
  | _ =>
    rw [state] at line
    cases line

theorem clearReport_of_other {s : State} (line : s.controller.state ∈ [LineState.free, .originating, .callPending,
    .clearing]) :
    clearReport s = s := by
  unfold clearReport
  simp only [List.mem_cons, List.not_mem_nil, or_false] at line
  obtain h | h | h | h := line <;> simp only [h]

/-- Settles O42 -/
theorem claimAndThresholds : Obligations.ClaimAndThresholds := by
  unfold Obligations.ClaimAndThresholds
  intro s
  refine ⟨fun c ends claim => ?_, fun r run => ⟨fun first => ?_, fun first => ?_⟩⟩
  · rw [exec_claimWithdrawn claim, echoFailed_eq]
    rfl
  · have reached := exec_breakThreshold run first
    refine ⟨fun elsewhere => ?_, fun line quiet => ?_, fun line sending => ?_⟩
    · rw [reached, if_neg elsewhere]
      rfl
    · rw [reached, if_pos line, if_neg (by simp [quiet])]
      rfl
    · rw [reached, if_pos line, if_pos sending]
      rfl
  · have reached := exec_clearThreshold run first
    have connected (line : s.controller.state = .waking ∨ s.controller.state = .established
        ∨ s.controller.state = .refusing) : s.controller.state.connected = true := by
      obtain h | h | h := line <;> rw [h] <;> rfl
    refine ⟨fun line => ?_, fun line => ⟨fun markerOpen => ?_, fun markerClosed => ?_⟩, fun line => ?_⟩
    · rw [reached, clearReport_of_unanswered (s := clearReached r s) line]
      rfl
    · rw [reached, clearReport_of_connected (s := clearReached r s) (connected line),
        closeMarker_of_open (s := clearReached r s) markerOpen]
      rfl
    · rw [reached, clearReport_of_connected (s := clearReached r s) (connected line),
        closeMarker_of_closed (s := clearReached r s) markerClosed]
      rfl
    · rw [reached, clearReport_of_other (s := clearReached r s) line]
      rfl

/-! ## The end of a character (R60, R80, R97, R98) -/

/-- A character counted at its end, with the transmitter idle and the idle countdown loaded (R107, R173). -/
def characterEnded (start : Nat) (keying : Keying) (s : State) : State :=
  let u := s.upTo (start + 6 * keying.unit + keying.stop)
  { u with
    transmitter := { s.transmitter with state := TxState.idle, sent := min 65535 (s.transmitter.sent + 1) }
    motor := idleLoaded u }

theorem exec_characterEnd {start : Nat} {c : Code} {keying : Keying} {s : State}
    (tx : s.transmitter.state = .sending start c keying) :
    exec .characterEnd s =
      .next (chooseOutgoing
        (if s.controller.state = .clearing then
          beginClearSpacing (setSequencer .empty (characterEnded start keying s))
        else sequenceDone (characterEnded start keying s))) := by
  refine happen_of_some ?_ s
  unfold doCharacterEnd
  simp only [tx, loadIdle_loaded]
  rfl

theorem sequenceDone_of_answerBack {wru : Bool} {s : State} (done : s.transmitter.sequencer = .answerBack [] wru) :
    sequenceDone s =
      { s with
        transmitter := { s.transmitter with sequencer := .empty }
        events := if wru then occurs 4 none s else s.events } := by
  unfold sequenceDone
  simp only [done, raise_eq]
  cases wru <;> rfl

theorem sequenceDone_of_refusal {s : State} (done : s.transmitter.sequencer = .refusal []) :
    sequenceDone s = cleared (setSequencer .empty s) := by
  unfold sequenceDone
  simp only [done, enterClearing_eq]

theorem sequenceDone_of_other {s : State} (notAnswerBack : ∀ wru, s.transmitter.sequencer ≠ .answerBack [] wru)
    (notRefusal : s.transmitter.sequencer ≠ .refusal []) : sequenceDone s = s := by
  unfold sequenceDone
  split
  · next wru h => exact absurd h (notAnswerBack wru)
  · next h => exact absurd h notRefusal
  · rfl

/-! ## Breaks (R66, R90, R91, R106) -/

theorem lineQuiet_of_idle {s : State} (line : s.controller.state = .established ∨ s.controller.state = .refusing)
    (tx : s.transmitter.state = .idle) (rx : s.receiver.state = .hunting) : lineQuiet s = true := by
  obtain h | h := line <;> simp [lineQuiet, h, tx, rx]

theorem arbiter_of_break {s : State} (quiet : lineQuiet s = true) (line : s.controller.state = .established)
    (pending : s.transmitter.breakPending = true) : arbiter s = some .breakRequest := by
  unfold arbiter
  rw [if_pos quiet]
  simp [waiting, line, pending]

theorem LineState.counts_iff (l : LineState) :
    l.counts = true ↔ l ∈ [LineState.callPending, .unanswered, .waking, .established, .refusing] := by
  cases l <;> decide

/-- The transmitter idle again at the end of a break. -/
def breakEnded (ends : Nat) (s : State) : State :=
  { s.upTo ends with transmitter := { s.transmitter with state := .idle } }

theorem exec_breakEnd {ends : Nat} {s : State} (tx : s.transmitter.state = .breaking ends) :
    exec .breakEnd s =
      .next (chooseOutgoing (if s.lineIn then breakEnded ends s else beginRun (breakEnded ends s))) := by
  refine happen_of_some ?_ s
  unfold doBreakEnd
  simp only [tx]
  rfl

theorem counterRuns_breakEnded (ends : Nat) (s : State) :
    counterRuns (breakEnded ends s) = s.controller.state.counts :=
  Bool.and_true _

/-- Settles O45: the end of a character by the line state and the sequence; the begin of a break as the arbiter's
choice, its end by whether the counter runs again. -/
theorem characterEndAndBreak : Obligations.CharacterEndAndBreak := by
  unfold Obligations.CharacterEndAndBreak
  intro s l clearing
  refine ⟨fun start c keying tx => ?_, fun line tx rx pending => ?_, fun ends tx => ?_⟩
  · intro u sent ended
    have ending := exec_characterEnd tx
    refine ⟨fun line => ?_, fun line => ⟨fun wru done => ?_, fun done => ?_, fun notAnswerBack notRefusal => ?_⟩⟩
    · rw [ending, if_pos line]
      rfl
    · rw [ending, if_neg line, sequenceDone_of_answerBack (s := characterEnded start keying s) done]
      rfl
    · rw [ending, if_neg line, sequenceDone_of_refusal (s := characterEnded start keying s) done]
      rfl
    · rw [ending, if_neg line, sequenceDone_of_other (s := characterEnded start keying s) notAnswerBack notRefusal]
      rfl
  · refine happen_of_some ?_ s
    exact if_pos (arbiter_of_break (lineQuiet_of_idle (.inl line) tx rx) line pending)
  · intro u counts
    have ending := exec_breakEnd tx
    refine ⟨fun idle => ?_, fun space running => ?_⟩
    · by_cases mark : s.lineIn = true
      · rw [ending, if_pos mark]
        rfl
      · have stands : counterRuns (breakEnded ends s) ≠ true := by
          rw [counterRuns_breakEnded]
          exact fun runs => idle.resolve_left mark ((LineState.counts_iff _).1 runs)
        rw [ending, if_neg mark, beginRun, if_neg stands]
        rfl
    · rw [ending, if_neg (by simp [space])]
      have runs : counterRuns (breakEnded ends s) = true := by
        rw [counterRuns_breakEnded]
        exact (LineState.counts_iff _).2 running
      rw [beginRun, if_pos runs]
      rfl

end Sys2Proof.Machine
end

section
/-! The begin of a character at a quiet instant (R90 to R93, R95 to R97): the arbiter's choice by the ranks of its
sources, what a take from SEND leaves, and the claim O44. -/

namespace Sys2Proof.Machine

/-! ## The arbiter's choice (R91) -/

section Arbiter

variable {s : State}

theorem arbiter_of_sequence (quiet : lineQuiet s = true)
    (noBreak : s.controller.state = .established ∧ s.transmitter.breakPending = false ∨ s.controller.state = .refusing)
    (codes : s.transmitter.sequencer.codesLeft ≠ []) : arbiter s = some .sequence := by
  have first : waiting s .breakRequest = false := by
    obtain ⟨_, h⟩ | h := noBreak <;> simp [waiting, h]
  have second : waiting s .sequence = true := by simp [waiting, codes]
  simp [arbiter, quiet, first, second]

theorem arbiter_of_request (quiet : lineQuiet s = true) (line : s.controller.state = .established)
    (noBreak : s.transmitter.breakPending = false) (codes : s.transmitter.sequencer.codesLeft = [])
    (request : s.transmitter.sequencer.isRequest = true) : arbiter s = some .answerBackRequest := by
  simp [arbiter, quiet, waiting, line, noBreak, codes, request]

theorem arbiter_of_send (quiet : lineQuiet s = true) (line : s.controller.state = .established)
    (noBreak : s.transmitter.breakPending = false) (codes : s.transmitter.sequencer.codesLeft = [])
    (noRequest : s.transmitter.sequencer.isRequest = false) (running : s.transmitter.halt = none)
    (text : 1 ≤ unread s .xmit) : arbiter s = some .sendRing := by
  have last : waiting s .sendRing = true := by
    simp only [waiting, line, running, decide_eq_true text]
    rfl
  have others (k : KeySource) (ne : k ≠ .sendRing) : waiting s k = false := by
    cases k with
    | sendRing => exact absurd rfl ne
    | _ => simp [waiting, noBreak, codes, noRequest]
  simp [arbiter, quiet, others, last]

end Arbiter

/-! ## A take from SEND (R17, R92, R119) -/

/-- SEND after a take at XMIT: R one on, the lock of a keyboard that types into it tested, SEND_EMPTY for the last
entry. -/
def sendTaken (s : State) : State :=
  let moved := s.setCursor .xmit { s.cursor .xmit with r := (s.cursor .xmit).r + 1 }
  { moved with
    keyboard :=
      { s.keyboard with
        locked := s.keyboard.locked && !(s.modes.station == .online && decide (8 ≤ freeSpace moved .send)) }
    events := if unread s .xmit = 1 then occurs 5 none s else s.events }

theorem destination_eq_send_iff (s : State) : destination s = .send ↔ s.modes.station = .online := by
  rw [destination_eq]
  cases s.modes.station <;> simp [StationMode.destination]

theorem takeEntry_xmit {s : State} {e : Entry} (there : entryBack s .send (unread s .xmit) = some e) :
    takeEntry .xmit s = some (e, testLockOn .send (advanceCursor .xmit 1 s)) := by
  unfold takeEntry
  have here : entryBack s CursorId.xmit.ring (unread s .xmit) = some e := there
  rw [here]
  rfl

theorem sendEmptyCheck_take {s : State} (text : 1 ≤ unread s .xmit) (tx : Transmitter) :
    sendEmptyCheck ((testLockOn .send (advanceCursor .xmit 1 s)).setTransmitter tx)
      = { sendTaken s with transmitter := tx } := by
  have left : unread ((testLockOn .send (advanceCursor .xmit 1 s)).setTransmitter tx) .xmit = unread s .xmit - 1 := by
    refine (unread_of_store (s := testLockOn .send (advanceCursor .xmit 1 s)) rfl .xmit).trans ?_
    rw [unread_testLockOn, unread_advanceCursor_same .xmit s text]
  have mine : decide (destination (advanceCursor .xmit 1 s) = .send) = (s.modes.station == .online) := by
    rw [Bool.eq_iff_iff, decide_eq_true_eq, beq_iff_eq]
    exact destination_eq_send_iff s
  unfold sendEmptyCheck
  rw [left, testLockOn_eq, mine, raise_eq]
  by_cases last : unread s .xmit = 1
  · rw [if_pos (by omega)]
    unfold sendTaken
    simp only [if_pos last]
    rfl
  · rw [if_neg (by omega)]
    unfold sendTaken
    simp only [if_neg last]
    rfl

theorem beginFromSend_of_guard {s : State} {e : Entry} {sc : Code}
    (there : entryBack s .send (unread s .xmit) = some e) (shift : guardShift s e = some sc) :
    beginFromSend s = some (keyCode sc s) := by
  simp only [beginFromSend, there, shift]

theorem beginFromSend_of_take {s : State} {e : Entry} {c : Code}
    (there : entryBack s .send (unread s .xmit) = some e) (plain : guardShift s e = none)
    (code : keyedCode e = some c) :
    beginFromSend s =
      some (keyCode c (sendEmptyCheck (followStream e (testLockOn .send (advanceCursor .xmit 1 s))))) := by
  simp only [beginFromSend, there, plain, code, takeEntry_xmit there]

/-- The guard keys a shift for a character in another plane than the line's, where one is listed (R93). -/
theorem guardShift_char (s : State) (c : Code) (p : Plane) (o : Option Origin) (h : Option Heard) :
    guardShift s (.char c p o h) =
      if lookup s.tables .letters c ≠ lookup s.tables .figures c ∧ p ≠ s.receiver.linePlane then shiftCode s.tables p
      else none := by
  unfold guardShift
  refine if_congr ?_ rfl rfl
  rw [Bool.and_eq_true, Bool.not_eq_true', bne_iff_ne, ← Bool.not_eq_true, neutral_iff]

/-- Settles O44: the arbiter's choice by rank; then for SEND the guard, and the take by `sendEmptyCheck_take`. -/
theorem characterBegin : Obligations.CharacterBegin := by
  unfold Obligations.CharacterBegin
  intro s tx rx noBreak l keyed holding moved taken
  have quiet : lineQuiet s = true := lineQuiet_of_idle (noBreak.imp And.left id) tx rx
  have begins {t : State} (d : doCharacterBegin s = some t) : exec .characterBegin s = .next (chooseOutgoing t) :=
    happen_of_some d s
  have notPending (line : s.controller.state = .established) : s.transmitter.breakPending = false := by
    obtain ⟨_, h⟩ | h := noBreak
    · exact h
    · rw [line] at h
      cases h
  refine ⟨fun c cs wru sequence => begins ?_, fun c cs sequence => begins ?_,
    fun c cs wru line request record => begins ?_, fun line codes noRequest running text => ?_⟩
  · unfold doCharacterBegin
    rw [arbiter_of_sequence quiet noBreak (by rw [sequence]; exact List.cons_ne_nil c cs)]
    simp only [sequence]
    rfl
  · unfold doCharacterBegin
    rw [arbiter_of_sequence quiet noBreak (by rw [sequence]; exact List.cons_ne_nil c cs)]
    simp only [sequence]
    rfl
  · unfold doCharacterBegin
    rw [arbiter_of_request quiet line (notPending line) (by rw [request]; rfl) (by rw [request]; rfl)]
    simp only [request, record]
    rfl
  · have fromSend : doCharacterBegin s = beginFromSend s := by
      unfold doCharacterBegin
      rw [arbiter_of_send quiet line (notPending line) codes noRequest running text]
    have emptied : taken = sendTaken s := rfl
    refine ⟨fun o erase => begins ?_, fun c p o h char => ⟨fun sc needs shift => begins ?_, fun plain => begins ?_⟩⟩
    · rw [fromSend, beginFromSend_of_take erase rfl rfl]
      have still : followStream (.erase o) (testLockOn .send (advanceCursor .xmit 1 s))
          = (testLockOn .send (advanceCursor .xmit 1 s)).setTransmitter s.transmitter := by
        rw [testLockOn_eq]
        rfl
      rw [still, sendEmptyCheck_take text]
      rfl
    · rw [fromSend, beginFromSend_of_guard char ((guardShift_char ..).trans ((if_pos needs).trans shift))]
      rfl
    · have none_shifted : guardShift s (.char c p o h) = none := by
        rw [guardShift_char]
        split
        · next needs => exact Option.not_isSome_iff_eq_none.1 fun found => plain ⟨needs, found⟩
        · rfl
      rw [fromSend, beginFromSend_of_take char none_shifted rfl]
      have follows : followStream (.char c p o h) (testLockOn .send (advanceCursor .xmit 1 s))
          = (testLockOn .send (advanceCursor .xmit 1 s)).setTransmitter { s.transmitter with streamPlane := p } := by
        rw [testLockOn_eq]
        rfl
      rw [follows, sendEmptyCheck_take text]
      rfl

end Sys2Proof.Machine
end

section
/-! Motor control and the bell (R168 to R174, R179, R180): each step and MOTOR RESTART by the state of the motor, the
cadence of the bell, and the claim O53. -/

namespace Sys2Proof.Machine

/-! ## Motor control -/

theorem running_setLink (l : Link) (s : State) : running (s.setLink l) = (running s).setLink l := by
  by_cases wakes : s.controller.state = .waking
  · have enters : running s = established _ := if_pos wakes
    rw [enters]
    exact if_pos wakes
  · have stays : running s = _ := if_neg wakes
    rw [stays]
    exact if_neg wakes

theorem runningUp_setLink (l : Link) (s : State) : runningUp (s.setLink l) = (runningUp s).setLink l := by
  let u : State :=
    { s with
      motor := { state := .runup, runupEnds := some (s.now + s.setup.motor.runupMs * 1000), idleEnds := none } }
  by_cases ready : s.sense[3].debounced = true
  · have runs : runningUp s = running u := if_pos ready
    rw [runs, ← running_setLink]
    exact if_pos ready
  · have waits : runningUp s = u := if_neg ready
    rw [waits]
    exact if_neg ready

theorem runningUp_now (s : State) : (runningUp s).now = s.now := by
  rw [← beginRunup_eq]
  simp

/-- The line states in which the motor may stop. -/
theorem LineState.idleStop_iff (l : LineState) :
    l.idleStop = true ↔ l ∈ [LineState.free, .originating, .callPending, .unanswered] := by
  cases l <;> decide

theorem restartMotor_of_not_fault {s : State} (h : s.motor.state ≠ .fault) : restartMotor s = s := if_neg h

theorem restartMotor_of_idle {s : State} (h : s.motor.state = .fault) (idle : ¬ Demands (stopMotor s)) :
    restartMotor s = stopMotor s := by
  unfold restartMotor
  rw [if_pos h]
  exact if_neg (mt (startDemand_iff _).1 idle)

theorem restartMotor_of_demand {s : State} (h : s.motor.state = .fault) (demand : Demands (stopMotor s)) :
    restartMotor s = runningUp s := by
  have from_stop : runningUp (stopMotor s) = runningUp s := rfl
  unfold restartMotor
  rw [if_pos h, ← from_stop, ← beginRunup_eq]
  exact if_pos ((startDemand_iff _).2 demand)

/-! ## The bell -/

theorem startRing_eq (s : State) :
    startRing s =
      { s with bell := { count := s.bell.count - 1, phase := .ringing s.now (500000 / s.setup.motor.tone) } } :=
  rfl

/-- Settles O53: motor control by the state of the motor and the demand; the bell by its phase and its count. -/
theorem motorAndBell : Obligations.MotorAndBell := by
  unfold Obligations.MotorAndBell
  refine ⟨fun s => ?_, fun s => ?_⟩
  · intro stopped reply
    let e := emptyBuffer s
    have run : exec .motorRestart s = finish (hostRecord 0 doMotorRestart s) := rfl
    have acts (t : State) (h : restartMotor e = t.setLink e.link) :
        doMotorRestart e = (.record 0xB4 (reply t), t.setLink e.link) := by
      unfold doMotorRestart
      rw [h]
      rfl
    refine ⟨fun still demand => ?_, fun t up ends => ?_, fun t runs ends => ?_,
      fun taken => ⟨fun fine => ?_, fun fault idle => ?_, fun fault demand => ?_⟩⟩
    · refine happen_of_some ?_ s
      rw [← beginRunup_eq]
      exact if_pos (by simp [still, (startDemand_iff s).2 demand])
    · refine happen_of_some ?_ s
      unfold doRunupTimeout
      simp only [ends, if_pos up, enterFault_eq]
    · intro u rests
      have isRunning : motorRunning s = true := by simp [motorRunning, runs]
      have decides : (!startDemand u && u.controller.state.idleStop) = true ↔ rests := by
        rw [Bool.and_eq_true, Bool.not_eq_true', ← Bool.not_eq_true, startDemand_iff, LineState.idleStop_iff]
        rfl
      have expiry : doIdleExpiry s = some (if !startDemand u && u.controller.state.idleStop then stopMotor u else loadIdle u) := by
        unfold doIdleExpiry
        simp only [ends, isRunning, if_true]
        rfl
      refine ⟨fun quiet => ?_, fun busy => ?_⟩
      · refine happen_of_some ?_ s
        rw [expiry, if_pos (decides.2 quiet)]
        rfl
      · refine happen_of_some ?_ s
        rw [expiry, if_neg (mt decides.1 busy), loadIdle_loaded]
    · exact answers_of_act run taken (by decide) (acts s (restartMotor_of_not_fault (s := e) fine)) rfl
    · exact answers_of_act run taken (by decide) (acts stopped (restartMotor_of_idle (s := e) fault idle)) rfl
    · have effect : restartMotor e = (runningUp s).setLink e.link := by
        rw [restartMotor_of_demand (s := e) fault demand, ← runningUp_setLink]
        rfl
      exact answers_of_act run taken (by decide) (acts (runningUp s) effect) (runningUp_now s)
  · intro ring
    refine ⟨fun quiet rings => ?_, fun start half ringing => ?_, fun start gap => ⟨fun rings => ?_,
        fun none_left => ?_⟩⟩
    · refine happen_of_some ?_ s
      exact if_pos (by simpa [quiet] using rings)
    · refine happen_of_some ?_ s
      unfold doRingEnd
      simp only [ringing]
      rfl
    · refine happen_of_some ?_ s
      unfold doGapEnd
      simp only [gap]
      exact congrArg some (if_pos rings)
    · refine happen_of_some ?_ s
      unfold doGapEnd
      simp only [gap]
      rw [if_neg (by simp [none_left]), ← none_left]
      rfl

end Sys2Proof.Machine
end

section
/-! The sense inputs (R145, R161 to R163, R170, R171, R175 to R177): a debounced change with its SENSE_CHANGE, what each
input does to the blocks, and the claim O54. -/

namespace Sys2Proof.Machine

/-! ## The engines halted (R144, R161) -/

theorem printerHalted_frame (s : State) :
    printerHalted s =
      { s with
        store := (printerHalted s).store
        events := (printerHalted s).events
        printer := { s.printer with held := (printerHalted s).printer.held } } := by
  by_cases idle : s.printer.halts.any = true ∨ s.printer.held = none
  · rw [printerHalted_of_idle idle]
  · obtain ⟨going, holds⟩ := not_or.1 idle
    obtain ⟨h, held⟩ := Option.ne_none_iff_exists'.1 holds
    rw [printerHalted_of_held (Bool.eq_false_of_not_eq_true going) held, returned_frame]
    rfl

theorem punchHalted_frame (s : State) :
    punchHalted s =
      { s with
        store := (punchHalted s).store
        events := (punchHalted s).events
        punch := { s.punch with held := (punchHalted s).punch.held } } := by
  by_cases idle : s.punch.halts.any = true ∨ s.punch.held = none
  · rw [punchHalted_of_idle idle]
  · obtain ⟨going, holds⟩ := not_or.1 idle
    obtain ⟨h, held⟩ := Option.ne_none_iff_exists'.1 holds
    rw [punchHalted_of_held (Bool.eq_false_of_not_eq_true going) held, returned_frame]
    rfl

theorem printerHalted_halts (s : State) : (printerHalted s).printer.halts = s.printer.halts := by
  rw [printerHalted_frame]

theorem printerHalted_modes (s : State) : (printerHalted s).modes = s.modes := by rw [printerHalted_frame]

theorem printerHalted_sense (s : State) : (printerHalted s).sense = s.sense := by rw [printerHalted_frame]

theorem printerHalted_punch (s : State) : (printerHalted s).punch = s.punch := by rw [printerHalted_frame]

theorem punchHalted_halts (s : State) : (punchHalted s).punch.halts = s.punch.halts := by
  rw [punchHalted_frame]

/-- A halt leaves every attached flag, and no more unread than a ring holds where there was no more before. -/
theorem printerHalted_attached (c : CursorId) (s : State) :
    ((printerHalted s).cursor c).attached = (s.cursor c).attached := by
  have kept := sameFlags_haltPrinter id s c
  rwa [haltPrinter_eq] at kept

theorem unread_returned_le {c : CursorId} {s : State} (h : Held) (within : unread s c ≤ (s.ring c.ring).len) :
    unread (returned h s) c ≤ (s.ring c.ring).len := by
  by_cases moved : h.moved = true
  · rwa [returned_of_moved moved]
  by_cases room : unread s h.cursor < (s.ring h.cursor.ring).len
  · rw [returned_of_within moved room]
    by_cases mine : c = h.cursor
    · subst mine
      rw [unread_setCursor_same]
      have back : ((s.ring h.cursor.ring).w - ((s.cursor h.cursor).r - 1)).toNat ≤ unread s h.cursor + 1 := by
        unfold unread
        bv_omega
      exact back.trans room
    · rwa [unread_setCursor_other mine]
  · rw [returned_of_lapped moved room]
    by_cases mine : c = h.cursor
    · subst mine
      exact (congrArg (· ≤ _) (unread_setCursor_same h.cursor _ s)).mpr within
    · exact (congrArg (· ≤ _) (unread_setCursor_other mine _ s)).mpr within

theorem unread_printerHalted_le {c : CursorId} {s : State} (within : unread s c ≤ (s.ring c.ring).len) :
    unread (printerHalted s) c ≤ (s.ring c.ring).len := by
  by_cases idle : s.printer.halts.any = true ∨ s.printer.held = none
  · rwa [printerHalted_of_idle idle]
  · obtain ⟨going, holds⟩ := not_or.1 idle
    obtain ⟨h, held⟩ := Option.ne_none_iff_exists'.1 holds
    rw [printerHalted_of_held (Bool.eq_false_of_not_eq_true going) held]
    exact unread_returned_le h within

theorem printerHalted_ring (i : RingId) (s : State) : (printerHalted s).ring i = s.ring i := by
  have back (h : Held) : (returned h s).ring i = s.ring i := by
    unfold returned
    split
    · rfl
    · split <;> rfl
  unfold printerHalted
  split
  · rfl
  · next h _ =>
    split
    · rfl
    · exact back h

/-! ## A debounced change (R175 to R177) -/

/-- The debounced state of an input changed, and SENSE_CHANGE raised where the states now differ from those told. -/
def inputDebounced (k : Fin 6) (value : Bool) (s : State) : State :=
  let sense := s.sense.set k { s.sense[k] with debounced := value }
  { s.upTo (s.sense[k].since + 10000) with
    sense := sense
    events := if sense.toList.any fun i => i.debounced != i.reported then occurs 13 none s else s.events }

theorem exec_senseDebouncedChange {k : Fin 6} {s : State} {value : Bool}
    (raw : (s.sense[k].pin != s.sense[k].assertedLow) = value) (changes : value ≠ s.sense[k].debounced) :
    exec (.senseDebouncedChange k) s =
      .next (chooseOutgoing
        (if value then senseAsserted k (inputDebounced k value s) else senseReleased k (inputDebounced k value s))) := by
  refine happen_of_some ?_ s
  have rawState : s.sense[k].raw = value := raw
  unfold doDebounced
  simp only [rawState, if_neg changes]
  have told : raiseSenseChange (setInput k { s.sense[k] with debounced := value } (s.upTo (s.sense[k].since + stabilityTime)))
      = inputDebounced k value s := by
    unfold raiseSenseChange inputDebounced
    rw [raise_eq]
    by_cases differs : (s.sense.set k { s.sense[k] with debounced := value }).toList.any
        (fun i => i.debounced != i.reported) = true
    · simp only [if_pos differs]
      exact if_pos differs
    · simp only [if_neg differs]
      exact if_neg differs
  unfold debounceTo
  have same : (s.upTo (s.sense[k].since + stabilityTime)).sense = s.sense := rfl
  simp only [same, told]

/-! ## What each input does to the blocks (R145, R161, R163, R176) -/

theorem tapeOutSet_eq (v : State) :
    tapeOutSet v =
      { punchHalted v with
        punch :=
          { (punchHalted v).punch with
            halts := { v.punch.halts with tapeOut := true }, runCount := 0, eraseDepth := 0 }
        events := occurs 10 (some 1) (punchHalted v) } := by
  unfold tapeOutSet
  rw [haltPunch_eq, raise_eq, punchHalted_halts]
  rfl

theorem coverOpenSet_eq (v : State) :
    coverOpenSet v =
      let a := printerHalted v
      let b :=
        punchHalted { a with printer := { a.printer with halts := { v.printer.halts with cover := true } } }
      { b with punch := { b.punch with halts := { v.punch.halts with cover := true } } } := by
  unfold coverOpenSet
  rw [haltPrinter_eq, haltPunch_eq, punchHalted_halts, printerHalted_halts]
  simp only [printerHalted_punch]

/-- The printer out of paper, before the report to the punch: the reason, the rings of ESTABLISHED, PAPER_OUT. -/
def paperOutNoted (v : State) : State :=
  { printerHalted v with
    printer := { (printerHalted v).printer with halts := { v.printer.halts with paper := true } }
    bell :=
      { v.bell with
        count := if v.controller.state = .established then min 3 (v.bell.count + 3) else v.bell.count }
    events := occurs 9 none (printerHalted v) }

theorem paperOutSet_eq (v : State) : paperOutSet v = divertPunch (paperOutNoted v) := by
  have line : (printerHalted v).controller = v.controller := by rw [printerHalted_frame]
  have bell : (printerHalted v).bell = v.bell := by rw [printerHalted_frame]
  unfold paperOutSet paperOutNoted
  rw [haltPrinter_eq, raise_eq, printerHalted_halts]
  simp only [line]
  by_cases established : v.controller.state = .established
  · rw [if_pos established, if_pos established, ← bell]
    rfl
  · rw [if_neg established, if_neg established, ← bell]
    rfl

/-- The punch diverted to TRAFFIC at the position of the print cursor (R163). -/
theorem divertPunch_of_due {b : State} (due : divertDue b = true)
    (bound : unread b .printP ≤ (b.ring .traffic).len) :
    divertPunch b =
      { b.setCursor .punchT
          { r := (b.cursor .printP).r, attached := true, lost := (b.cursor .punchT).lost } with
        modes := { b.modes with source := .traffic }
        punch := { b.punch with runCount := 0, eraseDepth := 0 }
        events := occurs 11 none b } := by
  let u : State := (b.setModes { b.modes with source := .traffic }).setCursor .punchT
    { b.cursor .punchT with r := (b.cursor .printP).r }
  have joined : cursorJoined .punchT u =
      u.setCursor .punchT
        { r := (b.cursor .printP).r, attached := true, lost := (b.cursor .punchT).lost } := by
    cases attached : (u.cursor .punchT).attached with
    | true =>
      rw [cursorJoined_of_attached attached]
      have was : (b.cursor .punchT).attached = true := attached
      have value : u.cursor .punchT =
          { r := (b.cursor .printP).r, attached := true, lost := (b.cursor .punchT).lost } := by
        rw [← was]
        rfl
      rw [← value, setCursor_self]
    | false =>
      rw [cursorJoined_of_within attached bound]
      rfl
  have diverts : divertPunch b = raise evDiverted none (forgetRun (attachCursor .punchT u)) := by
    unfold divertPunch
    rw [if_pos due]
    rfl
  rw [diverts, attachCursor_eq, joined, raise_eq]
  rfl

theorem divertDue_iff (s : State) :
    divertDue s = true ↔ (s.cursor .printP).attached = true ∧ s.modes.source = .off ∧ s.modes.divert = true
      ∧ s.sense[2].debounced = false := by
  simp [divertDue, asserted, and_assoc]

theorem motorReadyLost_eq (s : State) : motorReadyLost s = if s.motor.state = .running then faulted s else s := by
  unfold motorReadyLost
  rw [enterFault_eq]

theorem motorReadySet_eq (s : State) : motorReadySet s = if s.motor.state = .runup then running s else s := by
  unfold motorReadySet
  rw [enterRunning_eq]

/-- Settles O54: the pin, then the debounced change by `exec_senseDebouncedChange` and the input's own lemma. -/
theorem senseInputs : Obligations.SenseInputs := by
  unfold Obligations.SenseInputs
  intro k s
  refine ⟨fun level time changes => ?_, ?_⟩
  · exact happen_of_some (if_neg changes) s
  · intro value changes sense v becomes
    have acts := exec_senseDebouncedChange (k := k) (s := s) (value := value) rfl changes
    have debounced : inputDebounced k value s = v := rfl
    rw [debounced] at acts
    have motor : v.motor = s.motor := rfl
    refine ⟨fun released => ?_, fun asserted => ?_⟩
    · rw [released, if_neg Bool.false_ne_true] at acts
      have becomesReleased {t : State} (h : senseReleased k v = t) : becomes t := by rwa [h] at acts
      refine ⟨?_, ?_, ?_, ?_, ?_, ?_⟩
      · rintro rfl
        exact becomesReleased rfl
      · rintro rfl
        exact becomesReleased rfl
      · rintro rfl runs
        exact becomesReleased ((motorReadyLost_eq v).trans (if_pos runs))
      · rintro rfl still
        exact becomesReleased ((motorReadyLost_eq v).trans (if_neg still))
      · rintro rfl
        exact becomesReleased rfl
      · rintro (rfl | rfl) <;> exact becomesReleased rfl
    · rw [asserted, if_pos rfl] at acts
      have becomesAsserted {t : State} (h : senseAsserted k v = t) : becomes t := by rwa [h] at acts
      refine ⟨?_, ?_, ?_, ?_, ?_, ?_, ?_⟩
      · rintro rfl
        exact becomesAsserted (raise_eq ..)
      · rintro rfl
        exact becomesAsserted (tapeOutSet_eq v)
      · rintro rfl up
        exact becomesAsserted ((motorReadySet_eq v).trans (if_pos up))
      · rintro rfl other
        exact becomesAsserted ((motorReadySet_eq v).trans (if_neg other))
      · rintro rfl
        exact becomesAsserted rfl
      · rintro rfl
        exact becomesAsserted (coverOpenSet_eq v)
      · rintro rfl bound
        intro a b diverts
        have noted : paperOutSet v = divertPunch b := paperOutSet_eq v
        have modes : b.modes = s.modes := printerHalted_modes v
        have tape : b.sense[2].debounced = s.sense[2].debounced := by
          have pins : b.sense = v.sense := printerHalted_sense v
          rw [pins]
          have other : v.sense[2] = s.sense[2] := by simp [v, sense]
          exact congrArg SenseInput.debounced other
        have attached : (b.cursor .printP).attached = (s.cursor .printP).attached := printerHalted_attached .printP v
        have due : divertDue b = true ↔ diverts := by
          rw [divertDue_iff, attached, modes, tape]
        refine ⟨fun stays => ?_, fun goes => ?_⟩
        · exact becomesAsserted (noted.trans (if_neg (mt due.1 stays)))
        · have within : unread b .printP ≤ (b.ring .traffic).len := by
            have ring : b.ring .traffic = v.ring .traffic := printerHalted_ring .traffic v
            rw [ring]
            exact unread_printerHalted_le (s := v) (c := .printP) (bound .printP goes.1)
          have punch : b.punch = s.punch := printerHalted_punch v
          refine becomesAsserted (noted.trans ((divertPunch_of_due (due.2 goes) within).trans ?_))
          rw [modes, punch]

end Sys2Proof.Machine
end

section
/-! The repeat condition and its expiries (R115, R116), and the claim O47. -/

namespace Sys2Proof.Machine

/-! ## The repeat condition (R115, R116) -/

theorem filter_finRange_eq_singleton_iff {n : Nat} (p : Fin n → Bool) (k : Fin n) :
    (List.finRange n).filter p = [k] ↔ ∀ j, p j = true ↔ j = k := by
  constructor
  · intro only j
    have mem : j ∈ (List.finRange n).filter p ↔ j ∈ [k] := by rw [only]
    simpa using mem
  · intro only
    refine List.perm_singleton.1 ((List.perm_ext_iff_of_nodup ((List.nodup_finRange n).filter p) (List.nodup_singleton k)).2
      fun j => ?_)
    simpa using only j

/-- A held key that can be repeated (R113 to R115). -/
def RepeatableKey (s : State) (j : Fin 64) : Prop :=
  s.keyboard.states[j].pressed = true ∧ ((s.tables.keys[j] = .rubout ∧ s.keyboard.barred[j] = false)
    ∨ ∃ c need, s.tables.keys[j] = .code c need)

/-- The repeat condition with its repeating key. -/
def Repeats (s : State) (k : Fin 64) : Prop :=
  (∃ r : Fin 64, s.keyboard.states[r].pressed = true ∧ s.tables.keys[r] = .repeatKey)
    ∧ ∀ j, RepeatableKey s j ↔ j = k

theorem repeatKeyNow_eq_some_iff (s : State) (k : Fin 64) : repeatKeyNow s = some k ↔ Repeats s k := by
  have repeatHeld : ((List.finRange 64).any fun k => s.keyboard.states[k].pressed && s.tables.keys[k] == .repeatKey) = true
      ↔ ∃ r : Fin 64, s.keyboard.states[r].pressed = true ∧ s.tables.keys[r] = .repeatKey := by
    simp
  unfold repeatKeyNow Repeats
  rw [← repeatHeld]
  have only : (∀ j, RepeatableKey s j ↔ j = k) ↔ ∀ j, repeatable s j = true ↔ j = k :=
    forall_congr' fun j => iff_congr (repeatable_iff s j).symm Iff.rfl
  rw [only, ← filter_finRange_eq_singleton_iff]
  split
  · next on =>
    rw [and_iff_right on]
    split
    · next x only => rw [only, Option.some.injEq, List.cons.injEq, and_iff_left rfl]
    · next other => exact ⟨nofun, fun only => absurd only (other k)⟩
  · next off => exact ⟨nofun, fun h => absurd h.1 off⟩

theorem typed_of_code {s : State} {k : Fin 64} {c : Code} {need : Option Plane} (kind : s.tables.keys[k] = .code c need) :
    strikeKey k s = typed c need s := by
  unfold strikeKey
  rw [kind]
  exact strikeCode_eq c need s

theorem strikeKey_of_rubout {s : State} {k : Fin 64} (kind : s.tables.keys[k] = .rubout) :
    strikeKey k s = rubbedOut s := by
  unfold strikeKey
  rw [kind]
  exact strikeErase_eq s

theorem strikeKey_of_other {s : State} {k : Fin 64} (notRubout : s.tables.keys[k] ≠ .rubout)
    (notCode : ∀ c need, s.tables.keys[k] ≠ .code c need) : strikeKey k s = s := by
  unfold strikeKey
  split
  · next c need kind => exact absurd kind (notCode c need)
  · next kind => exact absurd kind notRubout
  · rfl

/-- Settles O47: the condition by `repeatKeyNow_eq_some_iff`, an expiry by the kind of the repeating key. -/
theorem repeatCondition : Obligations.RepeatCondition := by
  unfold Obligations.RepeatCondition
  intro s held repeatable holds timing
  have timed (k : Fin 64) (h : holds k) : repeatKeyNow s = some k := (repeatKeyNow_eq_some_iff s k).2 h
  refine ⟨fun nowhere => ?_, fun k here => ?_, fun r running => ?_⟩
  · have idle : repeatKeyNow s = none := by
      cases found : repeatKeyNow s with
      | none => rfl
      | some k => exact absurd ((repeatKeyNow_eq_some_iff s k).1 found) (nowhere k)
    rw [updateRepeat_eq, repeatingNow, idle]
    rfl
  · rw [updateRepeat_eq, repeatingNow, timed k here]
    by_cases same : s.keyboard.repeating.map Repeating.key = some k
    · rw [if_pos same]
      simp only [Option.bind_some, if_pos same]
      rfl
    · rw [if_neg same]
      simp only [Option.bind_some, if_neg same]
      rfl
  · intro u on
    have expires : exec .repeatTimerExpiry s = .next (chooseOutgoing (strikeKey r.key on)) := by
      refine happen_of_some ?_ s
      unfold doRepeat
      rw [running]
      rfl
    refine ⟨fun c need kind => ?_, fun kind => ?_, fun notRubout notCode => ?_⟩
    · rw [expires, typed_of_code (s := on) kind]
    · rw [expires, strikeKey_of_rubout (s := on) kind]
    · rw [expires, strikeKey_of_other (s := on) notRubout notCode]

end Sys2Proof.Machine
end

section
/-! The keyboard scanner (R108 to R113, R120 to R123): the instant of a reading, what a reading makes of a key,
    the press
events by kind, and the claim O46. -/

namespace Sys2Proof.Machine

/-! ## The instant of a reading (R108, R111) -/

/-- The first instant of a drive line at or after the present. -/
theorem scanInstant_first (s : State) (k : Fin 64) :
    ∃ j, scanInstant s (k.val / 8) = 8000 * j + 1000 * (k.val / 8 + 1)
      ∧ s.now ≤ 8000 * j + 1000 * (k.val / 8 + 1)
      ∧ ∀ i, s.now ≤ 8000 * i + 1000 * (k.val / 8 + 1) → j ≤ i := by
  have line : k.val / 8 < 8 := by omega
  refine ⟨(s.now + 7999 - 1000 * (k.val / 8 + 1)) / 8000, ?_, ?_, fun i => ?_⟩
  · simp only [scanInstant, ms]
    omega
  · omega
  · omega

theorem readingInstant_eq (s : State) (k : Fin 64) :
    let t := scanInstant s (k.val / 8)
    let read := ∃ k', s.keyboard.lastRead = some (t, k') ∧ k ≤ k'
    (¬ read → readingInstant s k = t) ∧ (read → readingInstant s k = t + 8000) := by
  intro t read
  unfold readingInstant
  constructor
  · intro fresh
    split
    · next t' k' last => exact if_neg fun ⟨now, higher⟩ => fresh ⟨k', by rw [last, now], higher⟩
    · rfl
  · rintro ⟨k', last, higher⟩
    rw [last]
    exact if_pos ⟨rfl, higher⟩

/-! ## What a reading makes of a key (R109, R110) -/

/-- A reading that presses a key. -/
def pressesAt (d : Nat) (before : KeyState) (closed : Bool) : Prop :=
  closed = true ∧ ((before = .up ∧ d ≤ 1) ∨ ∃ n, before = .pressing n ∧ d ≤ n + 1)

/-- A reading that releases a key. -/
def releasesAt (d : Nat) (before : KeyState) (closed : Bool) : Prop :=
  closed = false ∧ ((before = .down ∧ d ≤ 1) ∨ ∃ n, before = .releasing n ∧ d ≤ n + 1)

theorem readKey_of_press {d : Nat} {before : KeyState} {closed : Bool} (h : pressesAt d before closed) :
    readKey d before closed = .press := by
  obtain ⟨rfl, ⟨rfl, counted⟩ | ⟨n, rfl, counted⟩⟩ := h <;> exact if_pos counted

theorem readKey_of_release {d : Nat} {before : KeyState} {closed : Bool} (h : releasesAt d before closed) :
    readKey d before closed = .release := by
  obtain ⟨rfl, ⟨rfl, counted⟩ | ⟨n, rfl, counted⟩⟩ := h <;> exact if_pos counted

/-- The next state of a key that no reading presses or releases. -/
def keyAfter (d : Nat) : KeyState → Bool → KeyState
  | .up, true => .pressing 1
  | .up, false => .up
  | .pressing n, true => .pressing (n + 1)
  | .pressing _, false => .up
  | .down, true => .down
  | .down, false => .releasing 1
  | .releasing _, true => .down
  | .releasing n, false => .releasing (n + 1)
  | .suppressed _, true => .suppressed 0
  | .suppressed n, false => if d ≤ n + 1 then .up else .suppressed (n + 1)

theorem readKey_of_neither {d : Nat} {before : KeyState} {closed : Bool} (noPress : ¬ pressesAt d before closed)
    (noRelease : ¬ releasesAt d before closed) : readKey d before closed = .state (keyAfter d before closed) := by
  cases before with
  | up =>
    cases closed with
    | true => exact if_neg fun counted => noPress ⟨rfl, .inl ⟨rfl, counted⟩⟩
    | false => rfl
  | pressing n =>
    cases closed with
    | true => exact if_neg fun counted => noPress ⟨rfl, .inr ⟨n, rfl, counted⟩⟩
    | false => rfl
  | down =>
    cases closed with
    | true => rfl
    | false => exact if_neg fun counted => noRelease ⟨rfl, .inl ⟨rfl, counted⟩⟩
  | releasing n =>
    cases closed with
    | true => rfl
    | false => exact if_neg fun counted => noRelease ⟨rfl, .inr ⟨n, rfl, counted⟩⟩
  | suppressed n =>
    cases closed with
    | true => rfl
    | false => exact (apply_ite Reading.state _ _ _).symm

/-! ## Press events (R112, R113, R117, R120 to R123) -/

/-- The CODE keys held with a key that has just gone down: that key and its rivals. -/
theorem heldCodeKeys_setKey_down {k : Fin 64} {s : State} (code : s.tables.keys[k].isCode = true) :
    heldCodeKeys (setKey k .down s) =
      ((List.finRange 64).filter fun j =>
        j != k && s.keyboard.states[j].pressed && s.tables.keys[j].isCode).length + 1 := by
  have state (j : Fin 64) : (s.keyboard.states.set k .down)[j] = if j = k then .down else s.keyboard.states[j] := by
    simp only [Fin.getElem_fin, Vector.getElem_set, Fin.ext_iff, eq_comm]
  let p (j : Fin 64) : Bool := (s.keyboard.states.set k .down)[j].pressed && s.tables.keys[j].isCode
  have unfolded : heldCodeKeys (setKey k .down s) = (List.finRange 64).countP p := List.countP_eq_length_filter.symm
  have mine : (fun j => p j && decide (j = k)) = fun j => j == k := by
    funext j
    by_cases eq : j = k
    · subst eq
      simp only [p, state, if_true, code, KeyState.pressed, Bool.and_self, decide_true, beq_self_eq_true]
    · simp [eq]
  have others : (fun j => p j && !decide (j = k)) =
      fun j => j != k && s.keyboard.states[j].pressed && s.tables.keys[j].isCode := by
    funext j
    by_cases eq : j = k
    · simp [eq]
    · have ne : (j != k) = true := bne_iff_ne.2 eq
      simp only [p, state, eq, if_false, decide_false, Bool.not_false, Bool.and_true, ne, Bool.true_and]
  have once : (List.finRange 64).countP (fun j => j == k) = 1 :=
    List.count_eq_one_of_mem (List.nodup_finRange 64) (List.mem_finRange k)
  rw [unfolded, List.countP_eq_countP_filter_add _ p (fun j => decide (j = k)), List.countP_filter, List.countP_filter]
  rw [mine, once, others, List.countP_eq_length_filter, Nat.add_comm]

/-- The answer-back spelled into LOCAL code by code, each in the plane that the one before it left (R121). -/
def spelledOut (codes : List Code) (s : State) : State :=
  codes.foldl (fun w c =>
    let p := planeFollowing w w.store.locPlane c
    setWriterPlane .loc p (appendEntry .loc (.char c p (some .keyboard) none) w)) s

theorem planeAfter_eq (s : State) (p : Plane) (c : Code) : s.planeAfter p c = planeFollowing s p c := rfl

theorem plainText_spelledOut (t : State) (codes : List Code) (s : State) (tables : s.tables = t.tables)
    (setup : s.setup = t.setup) :
    putText .loc .keyboard (plainText t s.store.locPlane codes) s = spelledOut codes s := by
  induction codes generalizing s with
  | nil => rfl
  | cons c codes ih =>
    have plane : t.planeAfter s.store.locPlane c = planeFollowing s s.store.locPlane c := by
      unfold State.planeAfter planeFollowing
      rw [tables, setup]
      rfl
    let u := setWriterPlane .loc (planeFollowing s s.store.locPlane c)
      (appendEntry .loc (.char c (planeFollowing s s.store.locPlane c) (some .keyboard) none) s)
    have later := ih u tables setup
    simp only [plainText, putText, plane]
    exact later

theorem hereIsLocal_of_locked {s : State} (locked : s.keyboard.locked = true) : hereIsLocal s = s := if_pos locked

theorem hereIsLocal_of_room {s : State} (unlocked : s.keyboard.locked = false)
    (room : s.tables.answerBack.length ≤ freeSpace s .loc) : hereIsLocal s = spelledOut s.tables.answerBack s := by
  rw [← plainText_spelledOut s _ s rfl rfl]
  exact (if_neg (by simp [unlocked])).trans (if_pos room)

theorem hereIsLocal_of_full {s : State} (unlocked : s.keyboard.locked = false)
    (full : freeSpace s .loc < s.tables.answerBack.length) : hereIsLocal s = lockedOut s := by
  rw [← lockKeyboard_eq]
  exact (if_neg (by simp [unlocked])).trans (if_neg (Nat.not_le.2 full))

/-- An answer-back request in the words of the claim: made, held or dropped. -/
theorem requestAnswerBack_eq (wru : Bool) (s : State) :
    requestAnswerBack wru s =
      { s with transmitter :=
          { s.transmitter with
            sequencer :=
              if s.tables.answerBack ≠ [] ∧ s.transmitter.sequencer = .empty then .request wru
              else s.transmitter.sequencer
            dropped :=
              if s.tables.answerBack ≠ [] ∧ s.transmitter.sequencer ≠ .empty then
                min 65535 (s.transmitter.dropped + 1)
              else s.transmitter.dropped } } := by
  by_cases empty : s.tables.answerBack = []
  · rw [requestAnswerBack_of_empty wru empty, if_neg (fun h => h.1 empty), if_neg (fun h => h.1 empty)]
  by_cases free : s.transmitter.sequencer = .empty
  · rw [requestAnswerBack_of_held wru empty free, if_pos ⟨empty, free⟩, if_neg (fun h => h.2 free)]
  · rw [requestAnswerBack_of_dropped wru empty free, if_neg (fun h => free h.2), if_pos ⟨empty, free⟩]

theorem requestBreak_eq (s : State) :
    requestBreak s =
      { s with transmitter :=
          { s.transmitter with
            breakPending := if s.transmitter.state.isBreaking = false then true else s.transmitter.breakPending } } := by
  unfold requestBreak
  cases s.transmitter.state.isBreaking <;> rfl

/-! ## The claim -/

/-- The contact and the reading noted, before anything is made of it. -/
def readingNoted (k : Fin 64) (closed : Bool) (s : State) : State :=
  { s with
    keyboard := { s.keyboard with contacts := s.keyboard.contacts.set k closed, lastRead := some (s.now, k) } }

theorem exec_keyReading (k : Fin 64) (closed : Bool) (s : State) :
    let v := readingNoted k closed (s.upTo (readingInstant s k))
    exec (.keyReading k closed) s =
      .next (chooseOutgoing (updateRepeat
        (match readKey s.setup.keyboard.debounce s.keyboard.states[k] closed with
          | .state x => setKey k x v
          | .press => pressKey k v
          | .release => releaseKey k v))) :=
  rfl

/-- Settles O46: the instant of the reading, the three outcomes of `readKey`, and each press by its kind. -/
theorem keyReading : Obligations.KeyReading := by
  unfold Obligations.KeyReading
  intro k closed s u v d put down becomes before presses releases isCode rivals spelled own instant
  have reads := exec_keyReading k closed s
  have noted : v = readingNoted k closed u := rfl
  have nothing (noPress : ¬ presses) (noRelease : ¬ releases) : becomes (put (keyAfter d before closed)) := by
    have table : readKey s.setup.keyboard.debounce s.keyboard.states[k] closed = .state (keyAfter d before closed) :=
      readKey_of_neither noPress noRelease
    simp only [table] at reads
    exact reads
  have pressed (h : presses) {w : State} (effect : pressKey k v = w) : becomes w := by
    have table : readKey s.setup.keyboard.debounce s.keyboard.states[k] closed = .press := readKey_of_press h
    simp only [table] at reads
    rw [← effect]
    exact reads
  refine ⟨?_, fun noPress noRelease => ?_, fun releasing => ?_, fun pressing => ?_⟩
  · obtain ⟨j, first, later, least⟩ := scanInstant_first s k
    have fall := readingInstant_eq s k
    rw [first] at fall
    exact ⟨j, later, least, fall⟩
  · have same := nothing noPress noRelease
    clear_value before
    cases before <;> cases closed <;> exact same
  · have table : readKey s.setup.keyboard.debounce s.keyboard.states[k] closed = .release := readKey_of_release releasing
    simp only [table] at reads
    exact reads
  · have kinds (e : KeyEntry) (kind : s.tables.keys[k] = e) : pressKey k v = 
      match e with
      | .unused => down
      | .code c plane => if heldCodeKeys down ≤ 2 then strikeCode c plane down else setKey k (.suppressed 0) v
      | .hereIs => pressHereIs down
      | .repeatKey => down
      | .rubout => strikeErase down
      | .breakKey => pressBreak down
      | .feed => addFeeds 1 (setFeeding k true down)
      | .mode => changeStation s.modes.station.other down := by
      have tables : v.tables.keys[k] = e := kind
      unfold pressKey
      rw [tables]
      cases e <;> rfl
    have acts {e : KeyEntry} (kind : s.tables.keys[k] = e) {w : State} (effect : _ = w) : becomes w :=
      pressed pressing ((kinds e kind).trans effect)
    refine ⟨fun kind => acts kind rfl, fun kind => acts kind rfl, fun c need kind => ?_,
      fun kind => acts kind (strikeErase_eq down), fun kind => acts kind rfl, fun kind => ?_, fun kind => ?_,
      fun kind => ⟨fun online => ?_, fun inLocal locked => ?_, fun inLocal unlocked => ⟨fun room => ?_,
          fun full => ?_⟩⟩⟩
    · have code : v.tables.keys[k].isCode = true := by
        have tables : v.tables.keys[k] = .code c need := kind
        rw [tables]
        rfl
      have codes : isCode = fun j => s.tables.keys[j].isCode := by
        funext j
        simp only [isCode]
        cases s.tables.keys[j] <;> rfl
      have count : heldCodeKeys down = rivals + 1 := by
        simp only [rivals, codes]
        exact heldCodeKeys_setKey_down code
      refine ⟨fun few => acts kind ?_, fun many => acts kind ?_⟩
      · simp only [count]
        rw [if_pos (by omega), strikeCode_eq]
      · simp only [count]
        rw [if_neg (by omega)]
        rfl
    · have other : s.modes.station.other = if s.modes.station = .online then .localMode else .online := by
        cases s.modes.station <;> rfl
      refine acts kind ?_
      simp only [other, changeStation_eq]
    · refine acts kind ?_
      by_cases mine : own
      · have breaks : pressBreak down = requestBreak down := if_pos mine
        simp only [breaks, requestBreak_eq, mine, true_and]
        rfl
      · have stays : pressBreak down = down := if_neg mine
        simp only [stays, mine, false_and, if_false]
        rfl
    · refine acts kind ?_
      have here : pressHereIs down = if s.controller.state = .established then requestAnswerBack false down else down := by
        have station : down.modes.station = .online := online
        unfold pressHereIs
        rw [station]
        rfl
      simp only [here]
      by_cases line : s.controller.state = .established
      · have mine : own := ⟨online, line⟩
        simp only [if_pos line, requestAnswerBack_eq, mine, true_and]
        rfl
      · have notMine : ¬ own := fun h => line h.2
        simp only [if_neg line, notMine, false_and, if_false]
        rfl
    all_goals
      have here : pressHereIs down = hereIsLocal down := by
        have station : down.modes.station = .localMode := inLocal
        unfold pressHereIs
        rw [station]
      refine acts kind ?_
      simp only [here]
    · exact hereIsLocal_of_locked (s := down) locked
    · exact hereIsLocal_of_room (s := down) unlocked room
    · exact hereIsLocal_of_full (s := down) unlocked full

end Sys2Proof.Machine
end

section
/-! The completions of the printer's mechanisms (R130 to R133, R139): the strike, the advance, the return with its home
check and the feeds, each by what the mechanism was doing, and the claim O51. -/

namespace Sys2Proof.Machine

/-- A halt of the printer sees its slot and its halt reasons alone. -/
theorem printerHalted_setPrinter {s : State} {p : Printer} (held : p.held = s.printer.held)
    (halts : p.halts = s.printer.halts) :
    printerHalted (s.setPrinter p) =
      (printerHalted s).setPrinter { p with held := (printerHalted s).printer.held } := by
  by_cases idle : s.printer.halts.any = true ∨ s.printer.held = none
  · have idle' : (s.setPrinter p).printer.halts.any = true ∨ (s.setPrinter p).printer.held = none := by
      simpa [held, halts] using idle
    rw [printerHalted_of_idle idle, printerHalted_of_idle idle', ← held]
  · obtain ⟨going, holds⟩ := not_or.1 idle
    obtain ⟨h, there⟩ := Option.ne_none_iff_exists'.1 holds
    have going := Bool.eq_false_of_not_eq_true going
    have going' : (s.setPrinter p).printer.halts.any = false := by simpa [halts] using going
    have there' : (s.setPrinter p).printer.held = some h := by simpa [held] using there
    rw [printerHalted_of_held going there, printerHalted_of_held going' there', returned_setPrinter]
    rfl

/-- One or more feeds from now, one after another (R133, R139). -/
theorem beginFeeds_succ (n : Nat) (s : State) :
    beginFeeds (n + 1) s =
      { s with
          printer := { s.printer with paper := some { ends := s.now + 35000, more := n } },
          motor := idleLoaded s } := by
  unfold beginFeeds
  exact (loadIdle_loaded _).trans rfl

theorem beginAdvance_eq (s : State) :
    beginAdvance s =
      { s with printer := { s.printer with carriage := .advancing (s.now + 6000) }, motor := idleLoaded s } := by
  unfold beginAdvance
  rw [loadIdle_loaded]
  rfl

/-- A return from the column, or from the line width while the carriage is unsure (R131, R142). -/
theorem beginReturn_eq (s : State) :
    beginReturn s =
      { s with
        printer :=
          { s.printer with
            carriage :=
              .returning
                (s.now + (20000 + 1500 * ((if s.printer.unsure then s.setup.printer.width else s.printer.column) - 1))) }
        motor := idleLoaded s } := by
  unfold beginReturn
  rw [loadIdle_loaded]
  rfl

theorem motorRunning_iff (s : State) : motorRunning s = true ↔ s.motor.state = .running := beq_iff_eq

theorem doStrikeComplete_eq {s : State} {k : Strike} (struck : s.printer.hammer = some k) :
    doStrikeComplete s =
      some
        (if s.motor.state = .running ∧ k.atWidth = false then
          { s.upTo k.ends with
            printer := { s.printer with hammer := none, carriage := .advancing ((s.upTo k.ends).now + 6000) }
            motor := idleLoaded (s.upTo k.ends) }
        else { s.upTo k.ends with printer := { s.printer with hammer := none } }) := by
  unfold doStrikeComplete
  simp only [struck, beginAdvance_eq]
  by_cases runs : s.motor.state = .running ∧ k.atWidth = false
  · rw [if_pos runs]
    exact congrArg some (if_pos (by simpa [motorRunning_iff] using runs))
  · rw [if_neg runs]
    exact congrArg some (if_neg (by simpa [motorRunning_iff] using runs))

/-- The carriage at column 1 after a return, with a waiting width put in force (R127, R131). -/
def homed (ends : Nat) (s : State) : State :=
  { s.upTo ends with
    setup :=
      { s.setup with
        printer := { s.setup.printer with width := s.printer.waitingWidth.getD s.setup.printer.width } }
    printer := { s.printer with carriage := .idle, column := 1, waitingWidth := none } }

theorem putWaitingWidth_eq (s : State) :
    putWaitingWidth s =
      { s with
        setup :=
          { s.setup with
            printer := { s.setup.printer with width := s.printer.waitingWidth.getD s.setup.printer.width } }
        printer := { s.printer with waitingWidth := none } } := by
  unfold putWaitingWidth
  cases waits : s.printer.waitingWidth with
  | none =>
    have same : { s.printer with waitingWidth := none } = s.printer := by rw [← waits]
    rw [same]
    rfl
  | some w => rfl

theorem doReturnComplete_eq {s : State} {ends : Nat} (back : s.printer.carriage = .returning ends) :
    doReturnComplete s = some (carriageHomeCheck (homed ends s)) := by
  unfold doReturnComplete
  simp only [back, putWaitingWidth_eq]
  rfl

theorem carriageHomeCheck_of_home {s : State} (home : s.sense[4].debounced = true) :
    carriageHomeCheck s = { s with printer := { s.printer with unsure := false } } :=
  if_pos home

theorem carriageHomeCheck_of_away {s : State} (away : s.sense[4].debounced = false) :
    carriageHomeCheck s =
      { printerHalted s with
        printer :=
          { (printerHalted s).printer with unsure := true, halts := { s.printer.halts with carriage := true } }
        events := occurs 12 (some 1) (printerHalted s) } := by
  have check : carriageHomeCheck s = _ := if_neg (by simp [asserted, inCarriageHome, away])
  have halted := printerHalted_setPrinter (s := s) (p := { s.printer with unsure := true }) rfl rfl
  have reasons := printerHalted_halts s
  rw [check, raise_eq, haltPrinter_eq, halted]
  have held : (printerHalted s).printer = { s.printer with held := (printerHalted s).printer.held } := by
    rw [printerHalted_frame]
  rw [held]
  rfl

/-- Settles O51: each mechanism's completion, by what the mechanism was doing. -/
theorem printCompletions : Obligations.PrintCompletions := by
  unfold Obligations.PrintCompletions
  intro s
  refine ⟨fun k struck => ?_, fun ends steps => ?_, fun ends back => ?_, fun f feeds => ?_⟩
  · exact happen_of_some (doStrikeComplete_eq struck) s
  · intro u
    refine happen_of_some ?_ s
    unfold doAdvanceComplete
    simp only [steps]
    rfl
  · refine ⟨fun home => ?_, fun away => ?_⟩
    · refine happen_of_some ?_ s
      rw [doReturnComplete_eq back, carriageHomeCheck_of_home (s := homed ends s) (by exact home)]
      rfl
    · refine happen_of_some ?_ s
      rw [doReturnComplete_eq back, carriageHomeCheck_of_away (s := homed ends s) (by exact away)]
      rfl
  · have run : doLineFeedComplete s =
        some (beginFeeds f.more { s.upTo f.ends with printer := { s.printer with paper := none, newline := false } }) := by
      unfold doLineFeedComplete
      simp only [feeds]
      rfl
    refine ⟨fun last => ?_, fun n more => ?_⟩
    · refine happen_of_some ?_ s
      rw [run, last]
      rfl
    · refine happen_of_some ?_ s
      rw [run, more, beginFeeds_succ]
      rfl

end Sys2Proof.Machine
end

section
/-! What may come before the action of a held entry (R129, R140, R142): the action that an entry asks for, the travel
of the wheel, the implicit return and the implicit newline, and the claim O49. -/

namespace Sys2Proof.Machine

/-! ## The action that an entry asks for -/

theorem heldAction_of_held {s : State} {h : Held} (held : s.printer.held = some h) :
    heldAction s = some (printAction s.tables h.entry) := by
  unfold heldAction
  rw [held]
  rfl

/-- What a function of the code table asks of the printer (R136, R137). -/
def CodeFn.asks (glyph : Fin 64) : CodeFn → PrintAction
  | .printing => .strike glyph
  | .space => .space
  | .cr => .cr
  | .lf => .lf
  | .bell => .bell
  | .null | .ltrs | .figs | .wru => .nothing

theorem printAction_char (t : Tables) (c : Code) (p : Plane) (o : Option Origin) (x : Option Heard) :
    printAction t (.char c p o x) = (lookup t p c).fn.asks (lookup t p c).glyph := by
  unfold printAction
  simp only
  cases (lookup t p c).fn <;> rfl

/-- The function of a CHAR as the table stands; the other entries have none. -/
def Entry.fn (t : Tables) : Entry → Option CodeFn
  | .char c p _ _ => some (lookup t p c).fn
  | _ => none

theorem Entry.fn_eq_some_iff {t : Tables} {e : Entry} {f : CodeFn} :
    e.fn t = some f ↔ ∃ c p o x, e = .char c p o x ∧ (lookup t p c).fn = f := by
  cases e <;> simp [Entry.fn]

/-- The entries that need a sure carriage (R142). -/
theorem needsSureCarriage_of_entry {t : Tables} {e : Entry}
    (which : e = .connect ∨ e = .clear ∨ e.fn t = some .printing ∨ e.fn t = some .space ∨ e.fn t = some .lf) :
    (printAction t e).needsSureCarriage = true := by
  rcases which with rfl | rfl | fn | fn | fn
  · rfl
  · rfl
  all_goals
    obtain ⟨c, p, o, x, rfl, function⟩ := Entry.fn_eq_some_iff.1 fn
    rw [printAction_char, function]
    rfl

/-- The entries that need a place on the line (R140). -/
theorem needsColumn_of_entry {t : Tables} {e : Entry} (which : e.fn t = some .printing ∨ e.fn t = some .space) :
    (printAction t e).needsColumn = true := by
  rcases which with fn | fn
  all_goals
    obtain ⟨c, p, o, x, rfl, function⟩ := Entry.fn_eq_some_iff.1 fn
    rw [printAction_char, function]
    rfl

/-! ## The mechanisms at rest -/

theorem hammerIdle_iff (s : State) : hammerIdle s = true ↔ s.printer.hammer = none := Option.isNone_iff_eq_none

theorem carriageIdle_iff (s : State) : carriageIdle s = true ↔ s.printer.carriage = .idle := beq_iff_eq

theorem paperIdle_iff (s : State) : paperIdle s = true ↔ s.printer.paper = none := Option.isNone_iff_eq_none

theorem allIdle_iff (s : State) :
    allIdle s = true ↔ (s.printer.hammer = none ∧ s.printer.carriage = .idle) ∧ s.printer.paper = none := by
  unfold allIdle
  rw [Bool.and_eq_true, Bool.and_eq_true, hammerIdle_iff, carriageIdle_iff, paperIdle_iff]

theorem atWidth_iff (s : State) : atWidth s = true ↔ s.setup.printer.width ≤ s.printer.column := decide_eq_true_iff

/-! ## What begins -/

/-- A second load at the same instant changes nothing. -/
theorem idleLoaded_again {s t : State} (now : t.now = s.now) (setup : t.setup = s.setup) (motor : t.motor = idleLoaded s) :
    idleLoaded t = idleLoaded s := by
  rw [idleLoaded_eq t, now, setup, motor, idleLoaded_eq s]
  by_cases runs : s.motor.state = .running
  · simp only [runs, if_true]
  · simp only [runs, if_false]

/-- A return and feeds that begin together (R138 to R140). -/
theorem beginFeeds_beginReturn (n : Nat) (s : State) :
    beginFeeds (n + 1) (beginReturn s) =
      { s with
        printer :=
          { s.printer with
            carriage :=
              .returning
                (s.now + (20000 + 1500 * ((if s.printer.unsure then s.setup.printer.width else s.printer.column) - 1)))
            paper := some { ends := s.now + 35000, more := n } }
        motor := idleLoaded s } := by
  have now : (beginReturn s).now = s.now := by rw [beginReturn_eq]
  have setup : (beginReturn s).setup = s.setup := by rw [beginReturn_eq]
  have motor : (beginReturn s).motor = idleLoaded s := by rw [beginReturn_eq]
  rw [beginFeeds_succ, idleLoaded_again now setup motor, beginReturn_eq]

/-- The shorter way is forward where it is no more steps than the way back (R129). -/
theorem goesForward_iff {a g : Fin 64} (away : a ≠ g) :
    goesForward a g = true ↔ (g.val + 64 - a.val) % 64 ≤ (a.val + 64 - g.val) % 64 := by
  have apart : a.val ≠ g.val := fun same => away (Fin.ext same)
  unfold goesForward
  rw [decide_eq_true_eq, Fin.sub_def]
  dsimp only
  omega

theorem doWheelTravel_of_strike {s : State} {g : Fin 64} (asks : heldAction s = some (.strike g))
    (runs : s.motor.state = .running) (still : s.printer.wheel = .idle) (hammer : s.printer.hammer = none)
    (away : s.printer.wheelAt ≠ g) :
    doWheelTravel s =
      some
        { s with
          printer := { s.printer with wheel := .travelling g (goesForward s.printer.wheelAt g) (s.now + 750) }
          motor := idleLoaded s } := by
  unfold doWheelTravel
  simp only [asks]
  rw [if_pos (by simp [motorRunning, hammerIdle, runs, still, hammer, away]), loadIdle_loaded]
  rfl

theorem doImplicitReturn_of_unsure {s : State} {a : PrintAction} (asks : heldAction s = some a)
    (unsure : s.printer.unsure = true) (needs : a.needsSureCarriage = true) (runs : s.motor.state = .running)
    (hammer : s.printer.hammer = none) (carriage : s.printer.carriage = .idle) :
    doImplicitReturn s = some (beginReturn s) := by
  unfold doImplicitReturn
  simp only [asks]
  exact if_pos (by simp [motorRunning, hammerIdle, carriageIdle, runs, unsure, needs, hammer, carriage])

theorem doImplicitNewline_of_full {s : State} {a : PrintAction} (asks : heldAction s = some a)
    (sure : s.printer.unsure = false) (needs : needsNewline s a = true) (runs : s.motor.state = .running)
    (still : allIdle s = true) :
    doImplicitNewline s =
      some
        { s with
          printer :=
            { s.printer with
              carriage := .returning (s.now + (20000 + 1500 * (s.printer.column - 1)))
              paper := some { ends := s.now + 35000, more := 0 }
              newline := true }
          motor := idleLoaded s } := by
  unfold doImplicitNewline
  simp only [asks]
  rw [if_pos (by simp [motorRunning, runs, sure, needs, still]), beginFeeds_beginReturn, sure]
  rfl

/-- Settles O49: the travel by the action that the entry asks for, its steps, the implicit return and the implicit
newline. -/
theorem beforePrintAction : Obligations.BeforePrintAction := by
  unfold Obligations.BeforePrintAction
  refine ⟨fun h c p o x s => ?_, fun h s held runs hammer carriage => ?_⟩
  · intro a g
    refine ⟨fun held entry fn runs still hammer away => ?_, fun glyph forward ends travels => ?_⟩
    · have asks : heldAction s = some (.strike g) := by
        rw [heldAction_of_held held, entry, printAction_char, fn]
        rfl
      exact ⟨goesForward a g, happen_of_some (doWheelTravel_of_strike asks runs still hammer away) s,
        goesForward_iff away⟩
    · intro u b
      refine happen_of_some ?_ s
      unfold doWheelStep
      simp only [travels]
      rfl
  · intro fn width returning
    have fn_eq : fn = h.entry.fn s.tables := by
      cases h with
      | mk entry cursor moved => cases entry <;> rfl
    have asks := heldAction_of_held held
    rw [fn_eq]
    refine ⟨fun unsure which => ?_, fun sure which auto full paper => ?_⟩
    · refine happen_of_some ?_ s
      rw [doImplicitReturn_of_unsure asks unsure (needsSureCarriage_of_entry which) runs hammer carriage,
        beginReturn_eq, if_pos unsure]
    · have needs : needsNewline s (printAction s.tables h.entry) = true := by
        unfold needsNewline
        rw [needsColumn_of_entry which, auto, (atWidth_iff s).2 full]
        rfl
      exact happen_of_some
        (doImplicitNewline_of_full asks sure needs runs ((allIdle_iff s).2 ⟨⟨hammer, carriage⟩, paper⟩)) s

end Sys2Proof.Machine
end

section
/-! The actions of held entries at the printer (R135, R137 to R141): each action under its conditions, the run through
the entries that follow, and the claim O50. -/

namespace Sys2Proof.Machine

/-! ## The run of the event through the entries that follow -/

/-- A take of the printer lowers what is unread at its cursor by one, and leaves the modes. -/
theorem doPrintTake_unread {s t : State} (d : doPrintTake s = some t) :
    t.modes = s.modes ∧ unread t (printCursor s) + 1 = unread s (printCursor s) := by
  refine ⟨by rw [doPrintTake_frame d], ?_⟩
  simp only [doPrintTake] at d
  split at d
  · split at d
    · cases d
    · next e u taken =>
      cases d
      obtain ⟨there, rfl⟩ := takeEntry_eq taken
      have some_unread : unread s (printCursor s) ≠ 0 := by
        intro none_unread
        rw [none_unread, entryBack_zero] at there
        cases there
      have left := unread_advanceCursor_same (printCursor s) (n := 1) s (by omega)
      have same (p : Printer) :
          unread ((testLockOn (printCursor s).ring (advanceCursor (printCursor s) 1 s)).setPrinter p) (printCursor s)
            = unread (advanceCursor (printCursor s) 1 s) (printCursor s) :=
        (unread_of_store rfl _).trans (unread_testLockOn _ _ _)
      rw [same, left]
      omega
  · cases d

/-- A ring begun at once and an action leave the modes and what is unread. -/
theorem beginHeld_unread {t u : State} (d : beginHeld (ringAtOnce t) = some u) (c : CursorId) :
    u.modes = t.modes ∧ unread u c = unread t c := by
  have frame := beginHeld_frame d
  rw [ringAtOnce_frame t] at frame
  exact ⟨by rw [frame], unread_of_store (by rw [frame]) c⟩

/-- The printer's run ends by itself within the count of what is unread. -/
theorem printRun_enough (n : Nat) : ∀ s : State, unread s (printCursor s) ≤ n → printRun n s = printGoesOn s := by
  induction n with
  | zero =>
    intro s enough
    have nothing : unread s (printCursor s) = 0 := by omega
    unfold printGoesOn
    rw [nothing]
  | succ n ih =>
    intro s enough
    cases take : doPrintTake s with
    | none =>
      unfold printGoesOn
      rw [printRun_done _ s take, printRun_done _ s take]
    | some t =>
      obtain ⟨modes, one⟩ := doPrintTake_unread take
      have goes : printGoesOn s = printRun (unread t (printCursor s) + 1) s := by
        unfold printGoesOn
        rw [one]
      cases act : beginHeld (ringAtOnce t) with
      | none => rw [goes, printRun_holds _ s t take act, printRun_holds _ s t take act]
      | some u =>
        obtain ⟨modes', same⟩ := beginHeld_unread act (printCursor s)
        have reads : printCursor u = printCursor s := by rw [printCursor_eq, printCursor_eq, modes', modes]
        rw [goes, printRun_on _ s t u take act, printRun_on _ s t u take act, ih u (by rw [reads]; omega)]
        unfold printGoesOn
        rw [reads, same]

/-- What the print engine goes on to, entry by entry (R135; log 38). -/
theorem printGoesOn_of_wait {s t : State} (take : doPrintTake s = some t) (waits : beginHeld (ringAtOnce t) = none) :
    printGoesOn s = t := by
  have one := (doPrintTake_unread take).2
  unfold printGoesOn
  rw [← one, printRun_holds _ s t take waits]

theorem printGoesOn_of_act {s t u : State} (take : doPrintTake s = some t) (act : beginHeld (ringAtOnce t) = some u) :
    printGoesOn s = printGoesOn u := by
  obtain ⟨modes, one⟩ := doPrintTake_unread take
  obtain ⟨modes', same⟩ := beginHeld_unread act (printCursor s)
  have reads : printCursor u = printCursor s := by rw [printCursor_eq, printCursor_eq, modes', modes]
  rw [← printRun_enough (unread s (printCursor s)) s le_rfl, ← one, printRun_on _ s t u take act,
    printRun_enough _ u (by rw [reads, same])]

theorem ringAtOnce_cases (u : State) :
    ringAtOnce u =
      if u.bell.phase = .quiet ∧ 1 ≤ u.bell.count then
        { u with bell := { count := u.bell.count - 1, phase := .ringing u.now (500000 / u.setup.motor.tone) } }
      else u := by
  by_cases quiet : u.bell.phase = .quiet
  · by_cases wanted : 1 ≤ u.bell.count
    · rw [if_pos ⟨quiet, wanted⟩, ringAtOnce_quiet u quiet wanted, startRing_eq]
    · rw [if_neg (by simp [wanted])]
      simp [ringAtOnce, doRingBegin, quiet, wanted]
  · rw [if_neg (by simp [quiet]), ringAtOnce_busy u quiet]

/-! ## The actions -/

section
variable {s : State} {a : PrintAction}

theorem beginHeld_of_ready (asks : heldAction s = some a) (ready : actionReady s a = true) :
    beginHeld s = some (emptyPrintSlot (beginAction a s)) := by
  unfold beginHeld
  simp only [asks]
  exact if_pos ready

theorem beginHeld_of_waits (asks : heldAction s = some a) (waits : actionReady s a = false) : beginHeld s = none := by
  unfold beginHeld
  simp only [asks]
  exact if_neg (by simp [waits])

/-- An action that begins goes on within its event. -/
theorem exec_printAction {t : State} (begins : beginHeld s = some t) :
    beginHeld s = some t ∧ exec .printActionBegin s = .next (chooseOutgoing (printGoesOn t)) := by
  refine ⟨begins, happen_of_some ?_ s⟩
  unfold doPrintAction
  rw [begins]
  rfl

theorem beginStrike_eq (s : State) (room : s.printer.column < s.setup.printer.width ∨ s.setup.printer.autoNewline = false) :
    beginStrike s =
      { s with
        printer :=
          { s.printer with
            hammer := some { ends := s.now + 10000, atWidth := decide (s.setup.printer.width ≤ s.printer.column) }
            strikes := min 65535 (s.printer.strikes + 1) }
        motor := idleLoaded s } := by
  have at_width : (atWidth s && !s.setup.printer.autoNewline) = decide (s.setup.printer.width ≤ s.printer.column) := by
    rcases room with room | off
    · have inside : decide (s.setup.printer.width ≤ s.printer.column) = false := by simp [room]
      unfold atWidth
      rw [inside, Bool.false_and]
    · rw [off, Bool.not_false, Bool.and_true]
      rfl
  unfold beginStrike
  rw [loadIdle_loaded, at_width]
  rfl

/-- n feeds of the paper from an instant. -/
def feedsFrom (now n : Nat) : Option PaperFeed :=
  if n = 0 then none else some { ends := now + 35000, more := n - 1 }

/-- What a marker begins: a return where the column is above 1, and feeds (R138, R139). -/
theorem beginFeeds_markerReturn (n : Nat) (s : State) (sure : s.printer.unsure = false)
    (carriage : s.printer.carriage = .idle) (paper : s.printer.paper = none) :
    beginFeeds n (markerReturn s) =
      { s with
        printer :=
          { s.printer with
            carriage :=
              if 1 < s.printer.column then .returning (s.now + (20000 + 1500 * (s.printer.column - 1))) else .idle
            paper := feedsFrom s.now n }
        motor := if 1 < s.printer.column ∨ n ≠ 0 then idleLoaded s else s.motor } := by
  unfold markerReturn
  by_cases out : 1 < s.printer.column
  · rw [if_pos out, if_pos out, if_pos (.inl out)]
    cases n with
    | zero =>
      have begins : beginFeeds 0 (beginReturn s) = beginReturn s := rfl
      have idle : feedsFrom s.now 0 = s.printer.paper := paper.symm
      rw [begins, beginReturn_eq, idle, sure]
      rfl
    | succ n =>
      rw [beginFeeds_beginReturn, sure]
      rfl
  · rw [if_neg out, if_neg out]
    cases n with
    | zero =>
      have same : { s.printer with carriage := .idle, paper := feedsFrom s.now 0 } = s.printer := by
        have idle : feedsFrom s.now 0 = s.printer.paper := paper.symm
        rw [← carriage, idle]
      rw [if_neg (by simp [out]), same]
      rfl
    | succ n =>
      rw [if_pos (.inr (by simp)), beginFeeds_succ, ← carriage]
      rfl

end

/-- The mechanisms that an action waits for: all of them a strike and a marker, hammer and carriage a SPACE and a CR,
hammer and paper an LF (R137 to R139). -/
def PrintAction.AwaitsMechanism (s : State) : PrintAction → Prop
  | .strike g => s.printer.wheel ≠ .idle ∨ s.printer.wheelAt ≠ g ∨ ¬ allIdle s = true
  | .space | .cr => ¬ (s.printer.hammer = none ∧ s.printer.carriage = .idle)
  | .lf => s.printer.hammer ≠ none ∨ s.printer.paper ≠ none
  | .connect | .clear => ¬ allIdle s = true
  | .bell | .nothing => False

theorem actionReady_of_awaits {s : State} {a : PrintAction} (waits : a.AwaitsMechanism s) : actionReady s a = false := by
  rw [Bool.eq_false_iff]
  intro ready
  revert waits
  cases a with
  | strike g =>
    simp only [actionReady, Bool.and_eq_true, beq_iff_eq] at ready
    simp [PrintAction.AwaitsMechanism, ready]
  | space | cr =>
    simp only [actionReady, Bool.and_eq_true, hammerIdle_iff, carriageIdle_iff] at ready
    simp [PrintAction.AwaitsMechanism, ready]
  | lf =>
    simp only [actionReady, Bool.and_eq_true, hammerIdle_iff, paperIdle_iff] at ready
    simp [PrintAction.AwaitsMechanism, ready]
  | connect | clear =>
    simp only [actionReady, Bool.and_eq_true] at ready
    simp [PrintAction.AwaitsMechanism, ready]
  | bell | nothing => exact id

theorem not_allIdle {s : State}
    (moves : ¬ (s.printer.hammer = none ∧ s.printer.carriage = .idle) ∨ s.printer.paper ≠ none) : ¬ allIdle s = true := by
  rw [allIdle_iff]
  exact fun still => moves.elim (· still.1) (· still.2)

theorem needsNewline_of_room {s : State} {a : PrintAction}
    (room : s.printer.column < s.setup.printer.width ∨ s.setup.printer.autoNewline = false) :
    needsNewline s a = false := by
  unfold needsNewline atWidth
  rcases room with room | off
  · simp [room]
  · simp [off]

theorem newlineFed_iff (s : State) : newlineFed s = true ↔ s.printer.newline = false ∨ s.printer.paper = none := by
  unfold newlineFed
  rw [Bool.not_eq_true', Bool.and_eq_false_iff, Option.isSome_eq_false_iff, Option.isNone_iff_eq_none]

section
variable {s : State} {g : Fin 64}

theorem strike_ready (run : s.motor.state = .running) (sure : s.printer.unsure = false)
    (room : s.printer.column < s.setup.printer.width ∨ s.setup.printer.autoNewline = false)
    (wheel : s.printer.wheel = .idle) (at_glyph : s.printer.wheelAt = g) (idle : allIdle s = true) :
    actionReady s (.strike g) = true := by
  simp [actionReady, motorRunning, run, sure, needsNewline_of_room room, wheel, at_glyph, idle]

theorem space_ready (run : s.motor.state = .running ∨ atWidth s = true) (sure : s.printer.unsure = false)
    (room : s.printer.column < s.setup.printer.width ∨ s.setup.printer.autoNewline = false)
    (hammer : s.printer.hammer = none) (carriage : s.printer.carriage = .idle)
    (fed : s.printer.newline = false ∨ s.printer.paper = none) : actionReady s .space = true := by
  simp [actionReady, motorRunning, run, sure, needsNewline_of_room room, (newlineFed_iff s).2 fed,
    (hammerIdle_iff s).2 hammer, (carriageIdle_iff s).2 carriage]

theorem cr_ready (run : s.motor.state = .running) (hammer : s.printer.hammer = none)
    (carriage : s.printer.carriage = .idle) : actionReady s .cr = true := by
  simp [actionReady, motorRunning, run, (hammerIdle_iff s).2 hammer, (carriageIdle_iff s).2 carriage]

theorem lf_ready (run : s.motor.state = .running) (sure : s.printer.unsure = false) (hammer : s.printer.hammer = none)
    (paper : s.printer.paper = none) : actionReady s .lf = true := by
  simp [actionReady, motorRunning, run, sure, (hammerIdle_iff s).2 hammer, (paperIdle_iff s).2 paper]

theorem connect_ready (run : s.motor.state = .running) (sure : s.printer.unsure = false) (idle : allIdle s = true) :
    actionReady s .connect = true := by
  simp [actionReady, motorRunning, run, sure, idle]

theorem clear_ready
    (run : s.motor.state = .running ∨ s.printer.column ≤ 1 ∧ s.setup.printer.endFeeds = 0)
    (sure : s.printer.unsure = false) (idle : allIdle s = true) : actionReady s .clear = true := by
  simp [actionReady, motorRunning, run, sure, idle]

end

/-- Settles O50: the run of the event by its first entry, and each action by what its entry asks for. -/
theorem printActions : Obligations.PrintActions := by
  unfold Obligations.PrintActions
  refine ⟨fun s => ?_, fun h s held => ?_⟩
  · intro rung
    have rings (u : State) : rung u = ringAtOnce u := (ringAtOnce_cases u).symm
    cases take : doPrintTake s with
    | none => exact printRun_done _ s take
    | some t =>
      simp only [rings]
      cases act : beginHeld (ringAtOnce t) with
      | none => exact printGoesOn_of_wait take act
      | some u => exact printGoesOn_of_act take act
  · intro p empty becomes waits runs still width auto home back feeds
    have action := heldAction_of_held held
    have begins (a : PrintAction) (t : State) (asks : heldAction s = some a) (ready : actionReady s a = true)
        (does : emptyPrintSlot (beginAction a s) = t) : becomes t :=
      exec_printAction (by rw [beginHeld_of_ready asks ready, does])
    have holds (a : PrintAction) (asks : heldAction s = some a) (moving : actionReady s a = false) : waits :=
      beginHeld_of_waits asks moving
    refine ⟨fun c q o x entry => ?_, fun o entry => ?_, fun entry moving => ?_, fun entry => ?_, fun entry => ?_⟩
    · intro fn
      have asks : heldAction s = some (fn.asks (lookup s.tables q c).glyph) := by
        rw [action, entry, printAction_char]
      clear_value fn
      refine ⟨?_, ?_, ?_, ?_, ?_, ?_, ?_, ?_, ?_⟩
      · rintro rfl run sure wheel at_glyph rest paper room
        refine begins _ _ asks (strike_ready run sure room wheel at_glyph ((allIdle_iff s).2 ⟨rest, paper⟩)) ?_
        exact congrArg emptyPrintSlot (beginStrike_eq s room)
      · rintro rfl sure rest fed
        obtain ⟨hammer, carriage⟩ := rest
        refine ⟨fun run room => begins _ _ asks ?_ ?_, fun off full => begins _ _ asks ?_ ?_⟩
        · exact space_ready (.inl run) sure (.inl room) hammer carriage fed
        · have advances : beginAction .space s = beginAdvance s := if_neg (by simpa [atWidth] using room)
          exact congrArg emptyPrintSlot (advances.trans (beginAdvance_eq s))
        · exact space_ready (.inr ((atWidth_iff s).2 full)) sure (.inr off) hammer carriage fed
        · have stays : beginAction .space s = s := if_pos ((atWidth_iff s).2 full)
          exact congrArg emptyPrintSlot stays
      · rintro rfl run rest
        refine begins _ _ asks (cr_ready run rest.1 rest.2) ?_
        have carriage :
            (if p.unsure then .returning (s.now + (20000 + 1500 * (width - 1))) else back)
              = Carriage.returning (s.now + (20000 + 1500 * ((if p.unsure then width else p.column) - 1))) := by
          cases p.unsure <;> rfl
        rw [carriage]
        exact congrArg emptyPrintSlot (beginReturn_eq s)
      · rintro rfl run sure hammer paper
        exact begins _ _ asks (lf_ready run sure hammer paper) (congrArg emptyPrintSlot (beginFeeds_succ 0 s))
      · rintro rfl moving
        refine holds _ asks (actionReady_of_awaits ?_)
        rcases moving with wheel | away | moves | feeding
        · exact .inl wheel
        · exact .inr (.inl away)
        · exact .inr (.inr (not_allIdle (.inl moves)))
        · exact .inr (.inr (not_allIdle (.inr feeding)))
      · rintro fn moving
        refine holds _ asks (actionReady_of_awaits ?_)
        rcases fn with rfl | rfl <;> exact moving
      · rintro rfl moving
        exact holds _ asks (actionReady_of_awaits moving)
      · rintro rfl
        exact begins _ _ asks rfl rfl
      · intro which
        have idle : fn.asks (lookup s.tables q c).glyph = .nothing := by
          cases fn <;> simp at which <;> rfl
        exact begins .nothing _ (by rw [asks, idle]) rfl rfl
    · exact begins .nothing _ (by rw [action, entry]; rfl) rfl rfl
    · rcases entry with entry | entry
      · exact holds .connect (by rw [action, entry]; rfl) (actionReady_of_awaits (not_allIdle moving))
      · exact holds .clear (by rw [action, entry]; rfl) (actionReady_of_awaits (not_allIdle moving))
    · intro run sure rest paper
      have fed := beginFeeds_markerReturn 1 s sure rest.2 paper
      rw [if_pos (Or.inr (by decide))] at fed
      exact begins .connect _ (by rw [action, entry]; rfl) (connect_ready run sure ((allIdle_iff s).2 ⟨rest, paper⟩))
        (congrArg emptyPrintSlot fed)
    · intro sure rest paper n
      have fed := beginFeeds_markerReturn n s sure rest.2 paper
      have idle := (allIdle_iff s).2 ⟨rest, paper⟩
      refine ⟨fun home none => begins .clear _ (by rw [action, entry]; rfl) ?_ ?_,
        fun run which => begins .clear _ (by rw [action, entry]; rfl) ?_ ?_⟩
      · exact clear_ready (.inr ⟨home, none⟩) sure idle
      · have begun : beginAction .clear s = s := by
          have stays : markerReturn s = s := if_neg (Nat.not_lt.2 home)
          have feedless : beginAction .clear s = beginFeeds n (markerReturn s) := rfl
          rw [feedless, stays, none]
          rfl
        exact congrArg emptyPrintSlot begun
      · exact clear_ready (.inl run) sure idle
      · rw [if_pos which] at fed
        exact congrArg emptyPrintSlot fed

end Sys2Proof.Machine
end

section
/-! The takes of the engines (R17, R119, R134, R152, R153): several reads in one event amount to one movement of R with
one test of the lock, and the claim O48. -/

namespace Sys2Proof.Machine

/-! ## Reads at a cursor -/

theorem holding_le_maxUnread (s : State) (c : CursorId) : holding s c ≤ maxUnread s c.ring := by
  cases c <;> simp only [CursorId.ring, maxUnread] <;> omega

/-- A ring is no less free where its attached readers have no more unread. -/
theorem freeSpace_mono {s t : State} {i : RingId} (ring : t.ring i = s.ring i)
    (fewer : ∀ c, holding t c ≤ holding s c) : freeSpace s i ≤ freeSpace t i := by
  obtain ⟨c, rfl, largest⟩ := maxUnread_eq_holding t i
  have less := fewer c
  have bound := holding_le_maxUnread s c
  unfold freeSpace
  rw [ring]
  omega

/-- R moved on by n at a cursor, with the test of the lock of the event (R17, R119). -/
def readOn (c : CursorId) (n : Nat) (s : State) : State := testLockOn c.ring (advanceCursor c n s)

theorem readOn_eq (c : CursorId) (n : Nat) (s : State) :
    readOn c n s =
      { advanceCursor c n s with
        keyboard :=
          { s.keyboard with
            locked :=
              s.keyboard.locked
                && !(decide (destination s = c.ring) && decide (8 ≤ freeSpace (advanceCursor c n s) c.ring)) } } :=
  testLockOn_eq c.ring (advanceCursor c n s)

theorem setCursor_setCursor (c : CursorId) (v w : Cursor) (s : State) : (s.setCursor c v).setCursor c w = s.setCursor c w := by
  cases c <;> rfl

theorem advanceCursor_advanceCursor (c : CursorId) (m n : Nat) (s : State) :
    advanceCursor c n (advanceCursor c m s) = advanceCursor c (m + n) s := by
  unfold advanceCursor
  rw [setCursor_cursor_same, setCursor_setCursor]
  simp only [BitVec.add_assoc, BitVec.ofNat_add]

theorem freeSpace_advanceCursor_mono {c : CursorId} {m n : Nat} {s : State} (within : m + n ≤ unread s c) :
    freeSpace (advanceCursor c m s) c.ring ≤ freeSpace (advanceCursor c (m + n) s) c.ring := by
  refine freeSpace_mono (by simp [advanceCursor]) fun d => ?_
  by_cases mine : d = c
  · subst mine
    have here := unread_advanceCursor_same d s (n := m) (by omega)
    have there := unread_advanceCursor_same d s within
    simp only [holding, advanceCursor, setCursor_cursor_same] at here there ⊢
    split <;> omega
  · have same (k : Nat) : holding (advanceCursor c k s) d = holding s d := by
      unfold holding
      rw [unread_advanceCursor_other mine, advanceCursor, setCursor_cursor_other mine]
    exact le_of_eq ((same _).trans (same _).symm)

theorem readOn_readOn {c : CursorId} {m n : Nat} {s : State} (within : m + n ≤ unread s c) :
    readOn c n (readOn c m s) = readOn c (m + n) s := by
  have freer := freeSpace_advanceCursor_mono within
  have reads : advanceCursor c n (readOn c m s) = (advanceCursor c (m + n) s).setKeyboard (readOn c m s).keyboard := by
    rw [← advanceCursor_advanceCursor, readOn_eq]
    rfl
  have after : readOn c n (readOn c m s) = testLockOn c.ring (advanceCursor c n (readOn c m s)) := rfl
  have locked (l d : Bool) (a b : Nat) (le : a ≤ b) :
      ((l && !(d && decide (8 ≤ a))) && !(d && decide (8 ≤ b))) = (l && !(d && decide (8 ≤ b))) := by
    by_cases few : 8 ≤ a
    · have many : 8 ≤ b := by omega
      simp only [few, many, decide_true, Bool.and_assoc, Bool.and_self]
    · simp [few]
  have keyboard :
      (readOn c m s).keyboard =
        { s.keyboard with
          locked :=
            s.keyboard.locked
              && !(decide (destination s = c.ring) && decide (8 ≤ freeSpace (advanceCursor c m s) c.ring)) } := by
    rw [readOn_eq]
  rw [after, reads, keyboard, testLockOn_eq, readOn_eq c (m + n)]
  exact congrArg (fun b => (advanceCursor c (m + n) s).setKeyboard { s.keyboard with locked := b })
    (locked _ _ _ _ freer)

/-! ## Takes -/

theorem takeEntry_of_next {c : CursorId} {s : State} {e : Entry} (there : entryBack s c.ring (unread s c) = some e) :
    takeEntry c s = some (e, readOn c 1 s) := by
  unfold takeEntry
  rw [there]
  rfl

theorem readOn_unread {c : CursorId} {n : Nat} {s : State} (within : n ≤ unread s c) :
    unread (readOn c n s) c = unread s c - n :=
  (unread_testLockOn _ _ _).trans (unread_advanceCursor_same c s within)

theorem readOn_entryBack (c : CursorId) (n : Nat) (s : State) (i : RingId) (j : Nat) :
    entryBack (readOn c n s) i j = entryBack s i j :=
  entryBack_congr (by simp [readOn, advanceCursor]) (by simp [readOn, advanceCursor, State.setCursor]) i j

theorem readOn_modes (c : CursorId) (n : Nat) (s : State) : (readOn c n s).modes = s.modes := by
  simp [readOn, advanceCursor]

theorem isOwn_iff (e : Entry) : e.isOwn = true ↔ ∃ code p heard, e = .char code p (some .own) heard := by
  cases e with
  | char code p o heard => cases o with
    | none => simp [Entry.isOwn]
    | some o => cases o <;> simp [Entry.isOwn]
  | _ => simp [Entry.isOwn]

/-- Under FAR-only a run of OWN entries is passed over, as one movement of R (R152). -/
theorem takeForPunch_passes {c : CursorId} (fuel n : Nat) : ∀ s : State, s.modes.farOnly = true → n + 1 ≤ unread s c →
    (∀ j, j < n + 1 → ∃ f, entryBack s c.ring (unread s c - j) = some f ∧ f.isOwn = true) →
    takeForPunch (n + 1 + fuel) c s = takeForPunch fuel c (readOn c (n + 1) s) := by
  induction n with
  | zero =>
    intro s far within own
    obtain ⟨f, there, mine⟩ := own 0 (by omega)
    rw [Nat.zero_add, Nat.add_comm, takeForPunch, takeEntry_of_next there]
    simp [readOn_modes, far, mine]
  | succ n ih =>
    intro s far within own
    obtain ⟨f, there, mine⟩ := own 0 (by omega)
    have left := readOn_unread (c := c) (n := 1) (s := s) (by omega)
    have first : takeForPunch (n + 1 + 1 + fuel) c s = takeForPunch (n + 1 + fuel) c (readOn c 1 s) := by
      rw [show n + 1 + 1 + fuel = (n + 1 + fuel) + 1 by omega, takeForPunch, takeEntry_of_next there]
      simp [readOn_modes, far, mine]
    rw [first, ih (readOn c 1 s) (by rw [readOn_modes, far]) (by omega), readOn_readOn (by omega), Nat.add_comm 1]
    intro j inside
    rw [readOn_entryBack, left, Nat.sub_sub, Nat.add_comm 1]
    exact own (j + 1) (by omega)

/-- The entry that the punch keeps is the first that FAR-only does not pass over (R152). -/
theorem takeForPunch_keeps {c : CursorId} {s : State} {e : Entry} (fuel : Nat)
    (there : entryBack s c.ring (unread s c) = some e) (kept : (s.modes.farOnly && e.isOwn) = false) :
    takeForPunch (fuel + 1) c s =
      (readOn c 1 s).setPunch { s.punch with held := some { entry := e, cursor := c, moved := false } } := by
  have punch : (readOn c 1 s).punch = s.punch := by simp [readOn, advanceCursor]
  rw [takeForPunch, takeEntry_of_next there]
  simp only [readOn_modes, kept, punch]
  rfl

/-- Settles O48: the conditions of both takes, and the one movement of R that each makes. -/
theorem engineTakes : Obligations.EngineTakes := by
  unfold Obligations.EngineTakes
  intro s
  refine ⟨fun fails => ?_, fun fails => ?_, fun runs => ?_⟩
  · unfold doPrintTake
    split
    · next free =>
      simp only [Bool.and_eq_true, Option.isNone_iff_eq_none, motorRunning_iff, Bool.not_eq_true'] at free
      obtain ⟨⟨empty, runs⟩, going⟩ := free
      have nothing : entryBack s (printCursor s).ring (unread s (printCursor s)) = none := by
        simpa [empty, runs, going] using fails
      unfold takeEntry
      rw [nothing]
    · rfl
  · unfold doPunchTake
    cases reads : punchCursor s with
    | none => rfl
    | some c =>
      refine if_neg fun free => ?_
      simp only [Bool.and_eq_true, Option.isNone_iff_eq_none, motorRunning_iff, Bool.not_eq_true', beq_iff_eq] at free
      obtain ⟨⟨⟨⟨empty, runs⟩, going⟩, quiet⟩, there⟩ := free
      have nothing : entryBack s c.ring (unread s c) = none := by
        simpa [empty, runs, going, quiet, reads] using fails
      rw [nothing] at there
      cases there
  · intro printTakes punchTakes after own next
    have moved (c : CursorId) (n : Nat) : after c n = readOn c n s := (readOn_eq c n s).symm
    have own_iff (e : Entry) : own e ↔ e.isOwn = true := (isOwn_iff e).symm
    refine ⟨fun e free going there => ?_, fun c reads free going quiet => ?_⟩
    · have take : doPrintTake s =
          some ((readOn (printCursor s) 1 s).setPrinter
            { s.printer with held := some { entry := e, cursor := printCursor s, moved := false } }) := by
        unfold doPrintTake
        rw [if_pos (by simp [free, motorRunning, runs, going]), takeEntry_of_next there]
        simp [readOn, advanceCursor]
      rw [moved]
      exact ⟨take, happen_of_some take s⟩
    · intro taken
      have take (e : Entry) (there : next c 0 = some e) : doPunchTake s = some (takeForPunch (unread s c) c s) := by
        have there : entryBack s c.ring (unread s c) = some e := there
        unfold doPunchTake
        simp only [reads]
        exact if_pos (by simp [free, motorRunning, runs, going, quiet, there])
      have does (e : Entry) (t : State) (there : next c 0 = some e) (run : takeForPunch (unread s c) c s = t) :
          punchTakes t := by
        have take := take e there
        rw [run] at take
        exact ⟨take, happen_of_some take s⟩
      have unread_of_next {j : Nat} {e : Entry} (there : next c j = some e) : j < unread s c := by
        by_contra out
        have nothing : unread s c - j = 0 := by omega
        have there : entryBack s c.ring (unread s c - j) = some e := there
        rw [nothing, entryBack_zero] at there
        cases there
      have passes (n fuel : Nat) (far : s.modes.farOnly = true) (within : n + 1 ≤ unread s c)
          (run : ∀ j, j < n + 1 → ∃ f, next c j = some f ∧ own f) :
          takeForPunch (n + 1 + fuel) c s = takeForPunch fuel c (readOn c (n + 1) s) :=
        takeForPunch_passes fuel n s far within fun j inside => by
          obtain ⟨f, there, mine⟩ := run j inside
          exact ⟨f, there, (own_iff f).1 mine⟩
      refine ⟨fun e all there => ?_, fun n e far run there other => ?_, fun far some_unread run => ?_⟩
      · have some_unread := unread_of_next there
        refine does e _ there ?_
        obtain ⟨m, left⟩ : ∃ m, unread s c = m + 1 := ⟨unread s c - 1, by omega⟩
        rw [left, takeForPunch_keeps m there (by rw [all]; rfl), ← moved]
        rfl
      · have inside := unread_of_next there
        have kept : e.isOwn = false := by simpa [own_iff] using other
        obtain ⟨m, left⟩ : ∃ m, unread s c = n + (m + 1) := ⟨unread s c - (n + 1), by omega⟩
        cases n with
        | zero =>
          refine does e _ there ?_
          rw [left, Nat.zero_add, takeForPunch_keeps m there (by rw [kept, Bool.and_false]), ← moved]
          rfl
        | succ n =>
          obtain ⟨f, first, _⟩ := run 0 (by omega)
          refine does f _ first ?_
          have there : entryBack (readOn c (n + 1) s) c.ring (unread (readOn c (n + 1) s) c) = some e := by
            rw [readOn_entryBack, readOn_unread (by omega)]
            exact there
          have punch : (readOn c (n + 1) s).punch = s.punch := by simp [readOn, advanceCursor]
          rw [left, passes n (m + 1) far (by omega) run, takeForPunch_keeps m there (by rw [kept, Bool.and_false]),
            readOn_readOn (by omega), ← moved, punch]
          rfl
      · obtain ⟨f, first, _⟩ := run 0 some_unread
        obtain ⟨n, left⟩ : ∃ n, unread s c = n + 1 := ⟨unread s c - 1, by omega⟩
        refine does f _ first ?_
        rw [left] at run ⊢
        exact (passes n 0 far (by omega) run).trans (by rw [← moved]; rfl)

end Sys2Proof.Machine
end

section
/-! The punch's work (R152, R153, R155 to R159): the run of the event through the entries that follow,
    each action by its
entry, the steps of the mechanism, and the claim O52. -/

namespace Sys2Proof.Machine

/-! ## The run of the event through the entries that follow -/

theorem unread_takeForPunch_le (n : Nat) (c : CursorId) : ∀ s : State, unread (takeForPunch n c s) c ≤ unread s c := by
  induction n with
  | zero => exact fun s => le_rfl
  | succ n ih =>
    intro s
    cases there : entryBack s c.ring (unread s c) with
    | none => simp [takeForPunch, takeEntry, there]
    | some e =>
      have some_unread : unread s c ≠ 0 := by
        intro none_unread
        rw [none_unread, entryBack_zero] at there
        cases there
      have left := readOn_unread (c := c) (n := 1) (s := s) (by omega)
      have same (p : Punch) : unread ((readOn c 1 s).setPunch p) c = unread (readOn c 1 s) c := unread_of_store rfl c
      rw [takeForPunch, takeEntry_of_next there]
      dsimp only
      split
      · exact (ih _).trans (by omega)
      · rw [same]
        omega

/-- A take of the punch lowers what is unread at its cursor, and leaves the modes. -/
theorem doPunchTake_unread {s t : State} (d : doPunchTake s = some t) :
    t.modes = s.modes ∧ punchUnreadCount t < punchUnreadCount s := by
  have modes : t.modes = s.modes := by rw [doPunchTake_frame d]
  have reads : punchCursor t = punchCursor s := by rw [punchCursor_eq, punchCursor_eq, modes]
  refine ⟨modes, ?_⟩
  unfold doPunchTake at d
  unfold punchUnreadCount
  rw [reads]
  cases which : punchCursor s with
  | none => simp [which] at d
  | some c =>
    simp only [which] at d ⊢
    split at d
    · next free =>
      simp only [Bool.and_eq_true, Option.isSome_iff_exists] at free
      obtain ⟨_, e, there⟩ := free
      cases d
      have some_unread : unread s c ≠ 0 := by
        intro none_unread
        rw [none_unread, entryBack_zero] at there
        cases there
      obtain ⟨m, left⟩ : ∃ m, unread s c = m + 1 := ⟨unread s c - 1, by omega⟩
      have one := readOn_unread (c := c) (n := 1) (s := s) (by omega)
      have same (p : Punch) : unread ((readOn c 1 s).setPunch p) c = unread (readOn c 1 s) c := unread_of_store rfl c
      rw [left, takeForPunch, takeEntry_of_next there]
      dsimp only
      split
      · exact (unread_takeForPunch_le m c _).trans_lt (by omega)
      · rw [same]
        omega
    · cases d

/-- An action leaves the modes and what is unread. -/
theorem beginPunchHeld_unread {t u : State} (d : beginPunchHeld t = some u) :
    punchUnreadCount u = punchUnreadCount t := by
  have frame := beginPunchHeld_frame d
  have reads : punchCursor u = punchCursor t := by rw [punchCursor_eq, punchCursor_eq, frame]
  unfold punchUnreadCount
  rw [reads]
  cases punchCursor t with
  | none => rfl
  | some c => exact unread_of_store (by rw [frame]) c

/-- The punch's run ends by itself within the count of what is unread. -/
theorem punchRun_enough (m : Nat) : ∀ (n : Nat) (s : State), punchUnreadCount s ≤ m → punchUnreadCount s ≤ n →
    punchRun m s = punchRun n s := by
  induction m with
  | zero =>
    intro n s none_unread _
    have take : doPunchTake s = none := by
      cases take : doPunchTake s with
      | none => rfl
      | some t => exact absurd (doPunchTake_unread take).2 (by omega)
    rw [punchRun_done _ s take, punchRun_done _ s take]
  | succ m ih =>
    intro n s enough also
    cases take : doPunchTake s with
    | none => rw [punchRun_done _ s take, punchRun_done _ s take]
    | some t =>
      have fewer := (doPunchTake_unread take).2
      obtain ⟨k, rfl⟩ : ∃ k, n = k + 1 := ⟨n - 1, by omega⟩
      cases act : beginPunchHeld t with
      | none => rw [punchRun_holds _ s t take act, punchRun_holds _ s t take act]
      | some u =>
        have same := beginPunchHeld_unread act
        rw [punchRun_on _ s t u take act, punchRun_on _ s t u take act]
        exact ih k u (by omega) (by omega)

theorem punchGoesOn_of_wait {s t : State} (take : doPunchTake s = some t) (waits : beginPunchHeld t = none) :
    punchGoesOn s = t := by
  have fewer := (doPunchTake_unread take).2
  obtain ⟨k, left⟩ : ∃ k, punchUnreadCount s = k + 1 := ⟨punchUnreadCount s - 1, by omega⟩
  unfold punchGoesOn
  rw [left, punchRun_holds k s t take waits]

theorem punchGoesOn_of_act {s t u : State} (take : doPunchTake s = some t) (act : beginPunchHeld t = some u) :
    punchGoesOn s = punchGoesOn u := by
  have fewer := (doPunchTake_unread take).2
  have same := beginPunchHeld_unread act
  obtain ⟨k, left⟩ : ∃ k, punchUnreadCount s = k + 1 := ⟨punchUnreadCount s - 1, by omega⟩
  have enough : punchRun k u = punchGoesOn u := punchRun_enough k _ u (by omega) le_rfl
  rw [← enough, ← punchRun_on k s t u take act, ← left]
  rfl

/-! ## The actions -/

theorem punchReady_iff (s : State) :
    punchReady s = true ↔ (s.punch.work = none ∧ s.motor.state = .running) ∧ s.punch.halts.any = false := by
  simp only [punchReady, Bool.and_eq_true, Option.isNone_iff_eq_none, motorRunning_iff, Bool.not_eq_true']

theorem beginWork_cons (x : PunchStep) (rest : List PunchStep) (s : State) :
    beginWork (x :: rest) s =
      { s with
        punch := { s.punch with work := some { step := x, ends := some (s.now + x.time), rest := rest } }
        motor := idleLoaded s } := by
  unfold beginWork
  exact (loadIdle_loaded _).trans rfl

/-- The stroke and the feed of a character cycle with the magnets of a code, from now (R155). -/
def strokeCycle (code : Code) (s : State) : PunchWork :=
  { step := .stroke code true, ends := some (s.now + 20000), rest := [.feed false] }

theorem codeHoles_normal : ∀ c : Code, codeHoles .normal c = c := by decide

theorem codeHoles_reversed : ∀ c : Code,
    codeHoles .reversed c =
      BitVec.ofBoolListLE [c.getLsbD 4, c.getLsbD 3, c.getLsbD 2, c.getLsbD 1, c.getLsbD 0] := by
  decide

theorem beginCharacter_eq (c : Code) (s : State) :
    beginCharacter c s =
      { s with
        punch :=
          { s.punch with
            runCount := min 255 (s.punch.runCount + 1), eraseDepth := 0,
            punched := min 65535 (s.punch.punched + 1), work := some (strokeCycle (codeHoles s.setup.line.order c) s) }
        motor := idleLoaded s } := by
  unfold beginCharacter characterCycle
  rw [beginWork_cons]
  rfl

theorem eraseSteps_succ (e : Nat) :
    eraseSteps (e + 1) =
      .back :: (List.replicate e .back ++ .stroke 31 false :: List.replicate (e + 1) (.feed true)) := by
  simp only [eraseSteps, List.replicate_succ, List.cons_append, List.append_assoc, List.nil_append]

/-- An erase that reaches one position further back (R159). -/
theorem beginErase_of_back {s : State} (reaches : s.punch.eraseDepth + 1 ≤ 8 ∧ s.punch.eraseDepth + 1 ≤ s.punch.runCount) :
    beginErase s =
      { s with
        punch :=
          { s.punch with
            eraseDepth := s.punch.eraseDepth + 1, erases := min 65535 (s.punch.erases + 1)
            work :=
              some
                { step := .back, ends := some (s.now + 25000)
                  rest :=
                    List.replicate s.punch.eraseDepth .back
                      ++ .stroke 31 false :: List.replicate (s.punch.eraseDepth + 1) (.feed true) } }
        motor := idleLoaded s } := by
  have back : beginErase s = _ := if_pos reaches
  rw [back, eraseSteps_succ, beginWork_cons]
  rfl

/-- An erase that cannot reach back punches 31 forward (R159). -/
theorem beginErase_of_forward {s : State}
    (short : ¬ (s.punch.eraseDepth + 1 ≤ 8 ∧ s.punch.eraseDepth + 1 ≤ s.punch.runCount)) :
    beginErase s =
      { s with
        punch :=
          { s.punch with
            eraseDepth := 0, runCount := min 255 (s.punch.runCount + 1), erases := min 65535 (s.punch.erases + 1)
            work := some (strokeCycle 31 s) }
        motor := idleLoaded s } := by
  have forward : beginErase s = _ := if_neg short
  have holes : codeHoles s.setup.line.order 31 = 31 := by cases s.setup.line.order <;> decide
  have cycle (p : Punch) : characterCycle (s.setPunch p) 31 = [.stroke 31 true, .feed false] := by
    have unrolled : characterCycle (s.setPunch p) 31 = [.stroke (codeHoles s.setup.line.order 31) true,
        .feed false] := rfl
    rw [unrolled, holes]
  rw [forward, cycle, beginWork_cons]
  rfl

/-- The keys that feed, counted by their positions (R123). -/
theorem feedingKeys_eq (s : State) :
    feedingKeys s = ((List.finRange 64).filter fun k => s.keyboard.feeding[k]).length := by
  have listed : s.keyboard.feeding.toList = (List.finRange 64).map fun k => s.keyboard.feeding[k] := by
    refine List.ext_getElem (by simp) fun i _ _ => ?_
    simp
  unfold feedingKeys
  rw [listed, List.filter_map, List.length_map]
  rfl

theorem punchEntry_of_passed {s : State} {e : Entry} (far : s.modes.farOnly = true) (own : e.isOwn = true) :
    punchEntry e s = s :=
  if_pos (by rw [far, own]; rfl)

theorem punchEntry_of_char {s : State} {c : Code} {p : Plane} {o : Option Origin} {x : Option Heard}
    (meant : s.modes.farOnly = false ∨ o ≠ some .own) : punchEntry (.char c p o x) s = beginCharacter c s := by
  refine if_neg ?_
  rw [Bool.and_eq_true, isOwn_iff]
  rintro ⟨far, c', p', x', same⟩
  cases same
  exact meant.elim (by simp [far]) (· rfl)

theorem punchEntry_of_erase (o : Option Origin) (s : State) : punchEntry (.erase o) s = beginErase s :=
  if_neg (by simp [Entry.isOwn])

/-- The entry leaves the punch's slot. -/
def emptyPunchSlot (s : State) : State := s.setPunch { s.punch with held := none }

theorem beginPunchHeld_of_ready {s : State} {h : Held} (held : s.punch.held = some h) (ready : punchReady s = true)
    (quiet : s.punch.feeds = 0) :
    beginPunchHeld s = some (punchEntry h.entry (emptyPunchSlot s)) := by
  unfold beginPunchHeld
  simp only [held]
  exact if_pos (by simp [ready, quiet])

/-- An action that begins goes on within its event. -/
theorem exec_punchAction {s t : State} (begins : beginPunchHeld s = some t) :
    beginPunchHeld s = some t ∧ exec .punchActionBegin s = .next (chooseOutgoing (punchGoesOn t)) := by
  refine ⟨begins, happen_of_some ?_ s⟩
  unfold doPunchAction
  rw [begins]
  rfl

/-- Settles O52: the run of the event by its first entry, the conditions of an action, each action by its entry, and
the end of a step by what is left of the work. -/
theorem punchWorkAndSteps : Obligations.PunchWorkAndSteps := by
  unfold Obligations.PunchWorkAndSteps
  refine ⟨fun s => ?_, fun s fails => ?_, fun s runs going idle => ?_, fun w ends s works timed => ?_⟩
  · cases take : doPunchTake s with
    | none => exact punchRun_done _ s take
    | some t =>
      cases act : beginPunchHeld t with
      | none =>
        simp only [act]
        exact punchGoesOn_of_wait take act
      | some u =>
        simp only [act]
        exact punchGoesOn_of_act take act
  · unfold beginPunchHeld
    cases held : s.punch.held with
    | none => rfl
    | some h =>
      refine if_neg fun ready => ?_
      simp only [Bool.and_eq_true, beq_iff_eq, punchReady_iff] at ready
      obtain ⟨⟨⟨idle, runs⟩, going⟩, quiet⟩ := ready
      simp [idle, runs, going, quiet, held] at fails
  · intro q holes stroke
    have ready := (punchReady_iff s).2 ⟨⟨idle, runs⟩, going⟩
    refine ⟨fun asked => ?_, fun h held quiet => ?_⟩
    · refine happen_of_some ?_ s
      unfold doBlankCycle
      rw [if_pos (by simp [ready, show 1 ≤ s.punch.feeds from asked]), beginWork_cons]
      rfl
    · intro becomes
      have begins := beginPunchHeld_of_ready held ready quiet
      have does (p : Punch) (m : Motor)
          (act : punchEntry h.entry (emptyPunchSlot s)
            = { s with punch := { p with held := none }, motor := m }) : becomes p m :=
        exec_punchAction (by rw [begins, act])
      have magnets (c : Code) : codeHoles s.setup.line.order c = holes c := by
        cases order : s.setup.line.order with
        | normal =>
          simp only [holes, order]
          exact codeHoles_normal c
        | reversed =>
          simp only [holes, order]
          exact codeHoles_reversed c
      refine ⟨fun c p x far entry => does _ _ ?_, fun c p o x entry meant => does _ _ ?_, fun o entry => ?_,
        fun entry => does _ _ ?_, fun entry => does _ _ ?_⟩
      · rw [entry]
        exact punchEntry_of_passed far rfl
      · rw [entry, punchEntry_of_char (s := emptyPunchSlot s) meant, beginCharacter_eq, ← magnets]
        rfl
      · intro e
        refine ⟨fun near within => does _ _ ?_, fun far => does _ _ ?_⟩
        · rw [entry, punchEntry_of_erase, beginErase_of_back (s := emptyPunchSlot s) ⟨near, within⟩]
          rfl
        · rw [entry, punchEntry_of_erase,
            beginErase_of_forward (s := emptyPunchSlot s) (fun reaches => far.elim (Nat.not_lt.2 reaches.1) (Nat.not_lt.2 reaches.2))]
          rfl
      · rw [entry]
        exact if_neg (by simp [Entry.isOwn])
      · rw [entry]
        exact if_neg (by simp [Entry.isOwn])
  · intro u feeding lasts
    obtain ⟨step, timer, rest⟩ := w
    cases timed
    refine ⟨fun last => happen_of_some ?_ s, fun x rest more => ⟨fun runs => happen_of_some ?_ s,
        fun stands => happen_of_some ?_ s⟩⟩
    · cases last
      unfold doPunchStep
      simp only [works]
      have fed := feedingKeys_eq (s.upTo ends)
      rw [fed]
      rfl
    · cases more
      unfold doPunchStep
      simp only [works]
      have running : motorRunning (s.upTo ends) = true := (motorRunning_iff _).2 runs
      rw [if_pos running, beginWork_cons]
      cases x <;> rfl
    · cases more
      unfold doPunchStep
      simp only [works]
      exact if_neg (mt (motorRunning_iff _).1 stands)

end Sys2Proof.Machine
end

section
/-! A transition of LINE_IN (R44 to R47, R50, R63, R69 to R73): what the receiver makes of each edge, what the
connection controller makes of it, and the claim O38. -/

namespace Sys2Proof.Machine

/-! ## At the receiver -/

/-- The measure of a transition (R50): an early and a late deviation, one of which is 0. -/
theorem Assembly.measure_eq (l : LineSetup) (t : Nat) (a : Assembly) :
    a.measure l t =
      if 0 < t - a.t0 ∧ t - a.t0 ≤ 6 * l.unitLength + l.unitLength * l.orientation / 100
          ∧ 1 ≤ (t - a.t0 + l.unitLength / 2) / l.unitLength ∧ (t - a.t0 + l.unitLength / 2) / l.unitLength ≤ 6 then
        { a with
          early := max a.early ((t - a.t0 + l.unitLength / 2) / l.unitLength * l.unitLength - (t - a.t0))
          late := max a.late (t - a.t0 - (t - a.t0 + l.unitLength / 2) / l.unitLength * l.unitLength) }
      else a := by
  unfold Assembly.measure LineSetup.offset
  dsimp only
  split
  · split
    · next early =>
      have on_time : max a.late (t - a.t0 - (t - a.t0 + l.unitLength / 2) / l.unitLength * l.unitLength) = a.late := by
        omega
      rw [on_time]
    · next late =>
      have on_time : max a.early ((t - a.t0 + l.unitLength / 2) / l.unitLength * l.unitLength - (t - a.t0)) = a.early := by
        omega
      rw [on_time]
  · rfl

/-- What the receiver makes of a fall of the line (R44, R46). -/
def fallHeard (s : State) : RxState :=
  match s.receiver.state with
  | .hunting =>
    if receiverActive s then
      .assembling { t0 := s.now, own := claimStands s, next := 0, code := 0, early := 0, late := 0 }
    else .hunting
  | .assembling a => .assembling (a.measure s.setup.line s.now)
  | .waitMark => .waitMark

/-- The echo slot after a fall of the line: a start edge takes a claim that stands (R46). -/
def echoHeard (s : State) : Option EchoSlot :=
  if (receiverActive s = true ∧ s.receiver.state = .hunting) ∧ claimStands s = true then
    s.transmitter.echo.map fun e => { e with claim := none }
  else s.transmitter.echo

theorem spaceAtReceiver_eq (s : State) :
    spaceAtReceiver s =
      { s with
        receiver := { s.receiver with state := fallHeard s }
        transmitter := { s.transmitter with echo := echoHeard s } } := by
  have silent (unheard : ¬ (receiverActive s = true ∧ s.receiver.state = .hunting)) : echoHeard s = s.transmitter.echo :=
    if_neg fun h => unheard h.1
  unfold spaceAtReceiver
  cases state : s.receiver.state with
  | hunting =>
    dsimp only
    by_cases active : receiverActive s = true
    · have heard : fallHeard s =
          .assembling { t0 := s.now, own := claimStands s, next := 0, code := 0, early := 0, late := 0 } := by
        unfold fallHeard
        rw [state]
        exact if_pos active
      rw [if_pos active, heard]
      unfold startEdge
      by_cases stands : claimStands s = true
      · have taken : echoHeard s = _ := if_pos ⟨⟨active, state⟩, stands⟩
        rw [taken]
        exact if_pos stands
      · have kept : echoHeard s = _ := if_neg fun h => stands h.2
        rw [kept]
        exact if_neg stands
    · have heard : fallHeard s = s.receiver.state := by
        unfold fallHeard
        rw [state]
        exact if_neg active
      rw [if_neg active, heard, silent fun h => active h.1]
  | assembling a =>
    have heard : fallHeard s = .assembling (a.measure s.setup.line s.now) := by
      unfold fallHeard
      rw [state]
    rw [heard, silent (by simp [state])]
    rfl
  | waitMark =>
    have heard : fallHeard s = s.receiver.state := by
      unfold fallHeard
      rw [state]
    rw [heard, silent (by simp [state])]

/-- What the receiver makes of a rise of the line (R44). -/
def riseHeard (s : State) : RxState :=
  match s.receiver.state with
  | .assembling a => .assembling (a.measure s.setup.line s.now)
  | _ => .hunting

theorem stopCounter_markAtReceiver (s : State) :
    stopCounter (markAtReceiver s) = { s with receiver := { s.receiver with run := none, state := riseHeard s } } := by
  cases state : s.receiver.state with
  | hunting =>
    have heard : riseHeard s = s.receiver.state := by
      unfold riseHeard
      rw [state]
    have stays : markAtReceiver s = s := by
      unfold markAtReceiver
      rw [state]
    rw [heard, stays]
    rfl
  | assembling a | waitMark =>
    unfold markAtReceiver riseHeard
    rw [state]
    rfl

/-! ## At the controller and the counter -/

section
variable {s : State}

theorem callNotConfirmed_of_incoming (line : s.controller.state = .callPending) (incoming : s.controller.originate = false) :
    callNotConfirmed s = freed s := by
  have free : enterFree s = freed s := enterFree_of_unconnected (by rw [line]; rfl) (by simp [line])
  unfold callNotConfirmed
  rw [incoming, free]
  rfl

theorem callNotConfirmed_of_expired (line : s.controller.state = .callPending) (outgoing : s.controller.originate = true)
    (expired : s.controller.originateTimer = .expired) :
    callNotConfirmed s = { freed s with events := occurs 2 (some 2) s } := by
  have free : enterFree s = freed s := enterFree_of_unconnected (by rw [line]; rfl) (by simp [line])
  unfold callNotConfirmed
  rw [outgoing, if_pos expired, free, raiseCleared_eq]
  rfl

theorem callNotConfirmed_of_waiting (outgoing : s.controller.originate = true)
    (waits : s.controller.originateTimer ≠ .expired) :
    callNotConfirmed s =
      { s with controller := { s.controller with state := .originating, confirmTimer := none } } := by
  unfold callNotConfirmed
  rw [outgoing, if_neg waits]
  rfl

theorem spaceAtController_of_pending (line : s.controller.state = .callPending) :
    spaceAtController s = callNotConfirmed s := if_pos line

theorem spaceAtController_of_other (line : s.controller.state ≠ .callPending) : spaceAtController s = s := if_neg line

theorem beginRun_of_stopped (stops : s.controller.state.counts = false) : beginRun s = s :=
  if_neg (by simp [counterRuns, stops])

theorem beginRun_eq (s : State) :
    beginRun s =
      { s with receiver :=
          { s.receiver with
            run :=
              if counterRuns s then some { start := s.now, breakDone := false, clearDone := false }
              else s.receiver.run } } := by
  unfold beginRun
  by_cases runs : counterRuns s = true
  · rw [if_pos runs, if_pos runs]
    rfl
  · rw [if_neg runs, if_neg runs]

theorem markAtController_eq (s : State) :
    markAtController s =
      { s with controller :=
          match s.controller.state with
          | .free =>
            { s.controller with
              state := .callPending, originate := false
              confirmTimer := some (s.now + s.setup.line.confirmMs * 1000) }
          | .originating =>
            { s.controller with
              state := .callPending, confirmTimer := some (s.now + s.setup.line.confirmMs * 1000) }
          | _ => s.controller } := by
  unfold markAtController
  cases s.controller.state <;> rfl

end

/-! ## The transition -/

theorem lineTo_of_fall {time : Nat} {s t : State} (falls : doMarkToSpace time s = some t) :
    lineTo false time s = t
      ∧ (s.receiver.ahead = 0 → exec (.lineInMarkToSpace time) s = .next (chooseOutgoing t)) := by
  refine ⟨?_, fun now => ?_⟩
  · unfold lineTo
    rw [falls]
    rfl
  · exact (takeTransition_new _ s now).trans (happen_of_some falls s)

theorem lineTo_of_rise {time : Nat} {s t : State} (rises : doSpaceToMark time s = some t) :
    lineTo true time s = t
      ∧ (s.receiver.ahead = 0 → exec (.lineInSpaceToMark time) s = .next (chooseOutgoing t)) := by
  refine ⟨?_, fun now => ?_⟩
  · unfold lineTo
    rw [rises]
    rfl
  · exact (takeTransition_new _ s now).trans (happen_of_some rises s)

theorem receiverActive_iff (s : State) :
    receiverActive s = true ↔
      (s.controller.state = .waking ∨ s.controller.state = .established ∨ s.controller.state = .refusing)
        ∧ ¬ s.transmitter.state.isBreaking = true := by
  unfold receiverActive
  rw [Bool.and_eq_true, Bool.not_eq_true', Bool.not_eq_true]
  cases s.controller.state <;> simp [LineState.connected]

theorem counterRuns_iff {s : State} (line : s.controller.state ≠ .callPending) :
    counterRuns s = true ↔
      receiverActive s = true ∨ (s.controller.state = .unanswered ∧ ¬ s.transmitter.state.isBreaking = true) := by
  unfold counterRuns receiverActive
  rw [Bool.and_eq_true, Bool.and_eq_true, Bool.not_eq_true', Bool.not_eq_true]
  revert line
  cases s.controller.state <;> simp [LineState.connected, LineState.counts]

/-- Settles O38: what each of receiver, controller and counter makes of a fall, what they make of a rise, and nothing of
a transition to the level that the line has. -/
theorem lineTransitions : Obligations.LineTransitions := by
  unfold Obligations.LineTransitions
  intro time s u l breaking active own measured fallen risen becomes confirming
  let v := (s.upTo time).setLineIn false
  have active_iff : receiverActive v = true ↔ active := receiverActive_iff v
  have own_eq : own = claimStands v := by
    simp only [own, claimStands]
    have echo : v.transmitter.echo = s.transmitter.echo := rfl
    rw [echo]
    rcases s.transmitter.echo with _ | ⟨code, _ | ends⟩ <;> rfl
  have measured_eq (a : Assembly) : measured a = a.measure l u.now := (a.measure_eq l u.now).symm
  have fallen_eq : fallen = spaceAtReceiver v := by
    have both (x y : RxState) (e f : Option EchoSlot) (hx : x = y) (he : e = f) :
        { u with
          lineIn := false, receiver := { s.receiver with state := x }, transmitter := { s.transmitter with echo := e } }
        = { u with
            lineIn := false, receiver := { s.receiver with state := y }
            transmitter := { s.transmitter with echo := f } } := by
      rw [hx, he]
    rw [spaceAtReceiver_eq]
    refine both _ _ _ _ ?_ ?_
    · have same : v.receiver.state = s.receiver.state := rfl
      unfold fallHeard
      rw [same]
      cases s.receiver.state with
      | hunting =>
        dsimp only
        rw [own_eq]
        exact if_congr active_iff.symm rfl rfl
      | assembling a => exact congrArg RxState.assembling (measured_eq a)
      | waitMark => rfl
    · refine if_congr ?_ rfl rfl
      rw [own_eq, active_iff]
      exact (and_assoc (a := active)).symm
  have risen_eq : risen = stopCounter (markAtReceiver ((s.upTo time).setLineIn true)) := by
    have heard (x y : RxState) (hx : x = y) :
        { u with lineIn := true, receiver := { s.receiver with run := none, state := x } }
        = { u with lineIn := true, receiver := { s.receiver with run := none, state := y } } := by
      rw [hx]
    rw [stopCounter_markAtReceiver]
    refine heard _ _ ?_
    have same : ((s.upTo time).setLineIn true).receiver.state = s.receiver.state := rfl
    unfold riseHeard
    rw [same]
    cases s.receiver.state with
    | assembling a => exact congrArg RxState.assembling (measured_eq a)
    | _ => rfl
  refine ⟨fun mark => ?_, fun space => ?_, lineTo_same time s, fun n seen => ?_⟩
  · have falls (t : State) (h : beginRun (spaceAtController (spaceAtReceiver v)) = t) : becomes false t :=
      lineTo_of_fall (by rw [← h]; exact if_pos mark)
    rw [← fallen_eq] at falls
    refine ⟨fun line => falls _ ?_, fun line incoming => falls _ ?_, fun line outgoing expired => falls _ ?_,
      fun line outgoing waits => falls _ ?_⟩
    · rw [spaceAtController_of_other (s := fallen) line, beginRun_eq]
      have runs : counterRuns fallen = true ↔ active ∨ (s.controller.state = .unanswered ∧ ¬ breaking) := by
        rw [counterRuns_iff (s := fallen) line]
        exact or_congr active_iff Iff.rfl
      have run (x y : Option SpacingRun) (h : x = y) :
          { fallen with receiver := { fallen.receiver with run := x } }
          = { fallen with receiver := { fallen.receiver with run := y } } := by
        rw [h]
      exact run _ _ (if_congr runs rfl rfl)
    · rw [spaceAtController_of_pending (s := fallen) line, callNotConfirmed_of_incoming (s := fallen) line incoming]
      exact beginRun_of_stopped rfl
    · rw [spaceAtController_of_pending (s := fallen) line, callNotConfirmed_of_expired (s := fallen) line outgoing expired]
      exact beginRun_of_stopped rfl
    · rw [spaceAtController_of_pending (s := fallen) line, callNotConfirmed_of_waiting (s := fallen) outgoing waits]
      exact beginRun_of_stopped rfl
  · refine lineTo_of_rise ?_
    have rises : doSpaceToMark time s =
        some (markAtController (stopCounter (markAtReceiver ((s.upTo time).setLineIn true)))) := if_neg (by simp [space])
    rw [rises, ← risen_eq, markAtController_eq]
    have controls (x y : Controller) (h : x = y) :
        some { risen with controller := x } = some { risen with controller := y } := by
      rw [h]
    refine controls _ _ ?_
    have same : risen.controller = s.controller := rfl
    rw [same]
    cases s.controller.state <;> rfl
  · exact ⟨takeTransition_seen _ s n seen, takeTransition_seen _ s n seen⟩

end Sys2Proof.Machine
end

section
/-! The samples of a character in assembly (R45, R47 to R49): the state that a sample finds, the samples before the
stop, and the claim O39. -/

namespace Sys2Proof.Machine

theorem beforeSample_setup (t : Nat) (s : State) : (beforeSample t s).setup = s.setup := by rw [beforeSample_frame]

/-- What a sample of a character in assembly finds. -/
theorem atSample_of_assembling {a b : Assembly} {r : State} (before : r.receiver.state = .assembling b)
    (found : (beforeSample (r.setup.line.sampleAt b.t0 b.next) r).receiver.state = .assembling a) :
    atSample r =
      some (a, (beforeSample (r.setup.line.sampleAt b.t0 b.next) r).upTo (r.setup.line.sampleAt b.t0 b.next)) := by
  unfold atSample
  simp only [before, found]

section
variable {a : Assembly} {r u : State}

theorem doUnitSample_of_start (sampled : atSample r = some (a, u)) (first : a.next = 0) (space : u.lineIn = false) :
    doUnitSample r = some (setRx (.assembling { a with next := 1 }) u) := by
  unfold doUnitSample
  simp only [sampled]
  rw [if_pos first, space]
  rfl

theorem doUnitSample_of_code (sampled : atSample r = some (a, u)) (code : 1 ≤ a.next) (within : a.next ≤ 5) :
    doUnitSample r =
      some
        (setRx
          (.assembling
            { a with
              next := a.next + 1
              code := if u.lineIn then a.code ||| unitWeight u.setup.line.order a.next else a.code })
          u) := by
  unfold doUnitSample
  simp only [sampled]
  rw [if_neg (by omega), if_pos within]

theorem doFalseStart_of_mark (sampled : atSample r = some (a, u)) (first : a.next = 0) (mark : u.lineIn = true) :
    doFalseStart r =
      some
        (let dropped := u.setReceiver
          { u.receiver with
            state := .hunting
            stats := { u.receiver.stats with falseStart := bump u.receiver.stats.falseStart } }
        if a.own then echoFailed dropped else dropped) := by
  unfold doFalseStart
  simp only [sampled]
  rw [if_pos ⟨first, mark⟩]

end

/-- Settles O39: the transitions that a sample sees, and each sample by the unit that it is of. -/
theorem samplesOfACharacter : Obligations.SamplesOfACharacter := by
  unfold Obligations.SamplesOfACharacter
  refine ⟨fun t s => ?_, fun a b r before => ?_⟩
  · intro change reset waiting see
    have change_eq : change = lineChange := by
      funext c
      cases c <;> rfl
    have reset_eq : reset = isPowerOnReset := by
      funext c
      cases c <;> rfl
    unfold beforeSample waitingTransitions
    rw [← change_eq, ← reset_eq]
    rfl
  · intro l instant s found u weight dropped
    have sampled : atSample r = some (a, u) := atSample_of_assembling before found
    have setup : u.setup = r.setup := beforeSample_setup instant r
    refine ⟨fun first space => ?_, fun code within => ?_, fun first mark far => ?_, fun first mark own => ?_⟩
    · exact happen_of_some (doUnitSample_of_start sampled first space) r
    · have weighs : unitWeight u.setup.line.order a.next = BitVec.ofNat 5 weight := by
        rw [setup]
        simp only [unitWeight, weight, l]
        cases r.setup.line.order <;> rfl
      refine happen_of_some ?_ r
      rw [doUnitSample_of_code sampled code within, weighs]
      rfl
    · refine happen_of_some ?_ r
      rw [doFalseStart_of_mark sampled first mark, far]
      rfl
    · refine happen_of_some ?_ r
      rw [doFalseStart_of_mark sampled first mark, own]
      exact congrArg some (echoFailed_eq dropped)

end Sys2Proof.Machine
end

section
/-! The completion of a character (R32, R51 to R58, R100): its quality, what its echo or its code asks for, and the
statistics, and the claim O40. -/

namespace Sys2Proof.Machine

/-! ## The entry in TRAFFIC -/

theorem lapIfOver_setReceiver (c : CursorId) (x : Receiver) (s : State) :
    lapIfOver c (s.setReceiver x) = (lapIfOver c s).setReceiver x := by
  by_cases due : ((s.cursor c).attached && decide ((s.ring c.ring).len < unread s c)) = true
  · have lapped : lapIfOver c s = lapCursor c 1 s := if_pos due
    rw [lapped]
    exact if_pos due
  · have stays : lapIfOver c s = s := if_neg due
    rw [stays]
    exact if_neg due

theorem writeTraffic_setReceiver (e : Entry) (x : Receiver) (s : State) :
    writeTraffic e (s.setReceiver x) = (writeTraffic e s).setReceiver x := by
  have appended : appendEntry .traffic e (s.setReceiver x) = (appendEntry .traffic e s).setReceiver x := rfl
  simp only [writeTraffic, appended, lapIfOver_setReceiver]

/-! ## The echo and the WRU request -/

theorem echoAgrees_eq (s : State) (c : Code) :
    echoAgrees s c = ((s.transmitter.echo.map EchoSlot.code) == some c) := by
  unfold echoAgrees
  cases s.transmitter.echo <;> rfl

theorem qualityOf_far_ne_collided {own agrees stop : Bool} (far : own = false) :
    qualityOf own agrees stop ≠ .collided := by
  subst far
  cases stop <;> simp [qualityOf]

/-- The transmitter after the echo of an OWN character or the WRU request of a FAR one, but for a collision's halt. -/
def heardTransmitter (own : Bool) (q : Quality) (before : Plane) (c : Code) (s : State) : Transmitter :=
  let wru := own = false ∧ q = .good ∧ s.controller.state = .established
    ∧ (lookup s.tables before c).fn = .wru ∧ s.tables.answerBack ≠ []
  { s.transmitter with
    echo := if own then none else s.transmitter.echo
    sequencer :=
      if wru ∧ s.transmitter.sequencer = .empty then .request true else s.transmitter.sequencer
    dropped :=
      if wru ∧ s.transmitter.sequencer ≠ .empty then min 65535 (s.transmitter.dropped + 1)
      else s.transmitter.dropped }

/-- The state with that transmitter. -/
def heardOut (own : Bool) (q : Quality) (before : Plane) (c : Code) (s : State) : State :=
  { s with transmitter := heardTransmitter own q before c s }

theorem heardOut_of_own (q : Quality) (before : Plane) (c : Code) (s : State) :
    heardOut true q before c s = { s with transmitter := { s.transmitter with echo := none } } := by
  simp [heardOut, heardTransmitter]

theorem wruLookup_far (q : Quality) (before : Plane) (c : Code) (s : State) :
    wruLookup false q before c s = heardOut false q before c s := by
  unfold wruLookup heardOut heardTransmitter
  by_cases asks : q = .good ∧ s.controller.state = .established ∧ (lookup s.tables before c).fn = .wru
  · rw [if_pos ⟨rfl, asks⟩, requestAnswerBack_eq]
    simp [asks]
  · have silent : ¬ (q = .good ∧ s.controller.state = .established ∧ (lookup s.tables before c).fn = .wru
        ∧ s.tables.answerBack ≠ []) := fun ⟨good, line, fn, _⟩ => asks ⟨good, line, fn⟩
    rw [if_neg fun h => asks h.2]
    simp [silent]

/-- The echo result and the WRU request, one of which an event has. -/
theorem wruLookup_echoResult {own : Bool} {q : Quality} (before : Plane) (c : Code) (s : State)
    (far : own = false → q ≠ .collided) :
    wruLookup own q before c (echoResult own q s) =
      if q = .collided then haltedFor .collision (heardOut own q before c s) else heardOut own q before c s := by
  cases own with
  | true =>
    have silent (u : State) : wruLookup true q before c u = u := if_neg (by simp)
    rw [silent, heardOut_of_own]
    unfold echoResult
    rw [if_pos rfl, echoFailed_eq]
    rfl
  | false =>
    rw [if_neg (far rfl), ← wruLookup_far]
    rfl

/-! ## The statistics -/

/-- A saturating count, one more where it counts. -/
def countedIf (counts : Bool) (n : Nat) : Nat := if counts then min 65535 (n + 1) else n

/-- The statistics after a completed character (R57). -/
def RxStats.counted (q : Quality) (early late warning : Nat) (st : RxStats) : RxStats :=
  { good := countedIf (q == .good) st.good, stopError := countedIf (q == .stopError) st.stopError
    collided := countedIf (q == .collided) st.collided, falseStart := st.falseStart
    peakEarly := max st.peakEarly early, peakLate := max st.peakLate late
    warning := countedIf (decide (warning ≤ max early late)) st.warning }

theorem RxStats.count_warning (q : Quality) (st : RxStats) : (st.count q).warning = st.warning := by cases q <;> rfl

theorem RxStats.counted_eq (q : Quality) (early late warning : Nat) (st : RxStats) :
    st.counted q early late warning =
      { st.count q with
        peakEarly := max (st.count q).peakEarly early, peakLate := max (st.count q).peakLate late
        warning := countedIf (decide (warning ≤ max early late)) (st.count q).warning } := by
  cases q <;> rfl

theorem countCharacter_eq (q : Quality) (early late : Nat) (s : State) :
    countCharacter q early late s =
      { s with
        receiver := { s.receiver with stats := s.receiver.stats.counted q early late s.setup.line.warning }
        events :=
          if s.setup.line.warning ≤ max early late ∧ s.receiver.stats.warning = 0 then occurs 14 none s
          else s.events } := by
  have before := RxStats.count_warning q s.receiver.stats
  rw [RxStats.counted_eq]
  unfold countCharacter countedIf
  by_cases warns : s.setup.line.warning ≤ max early late
  · simp only [warns, decide_true, if_true, true_and, before]
    by_cases first : s.receiver.stats.warning = 0
    · rw [if_pos first, if_pos first, raise_eq]
      rfl
    · rw [if_neg first, if_neg first]
      rfl
  · simp only [warns, decide_false, if_false, false_and, Bool.false_eq_true]
    rfl

/-! ## The completion -/

/-- A collision halts the sending (R100). -/
def collisionTold (q : Quality) (s : State) : State := if q = .collided then haltedFor .collision s else s

theorem collisionTold_setReceiver (q : Quality) (x : Receiver) (s : State) :
    collisionTold q (s.setReceiver x) = (collisionTold q s).setReceiver x := by
  unfold collisionTold
  by_cases collided : q = .collided
  · rw [if_pos collided, if_pos collided]
    cases halt : s.transmitter.halt with
    | none =>
      rw [haltedFor_of_clear halt]
      exact haltedFor_of_clear (s := s.setReceiver x) halt
    | some earlier =>
      rw [haltedFor_of_set halt]
      exact haltedFor_of_set (s := s.setReceiver x) halt
  · rw [if_neg collided, if_neg collided]

theorem collisionTold_frame (q : Quality) (s : State) :
    collisionTold q s =
      { s with transmitter := (collisionTold q s).transmitter, events := (collisionTold q s).events } := by
  unfold collisionTold haltedFor
  split
  · split <;> rfl
  · rfl

theorem collisionTold_setup (q : Quality) (s : State) : (collisionTold q s).setup = s.setup := by
  rw [collisionTold_frame]

theorem collisionTold_now (q : Quality) (s : State) : (collisionTold q s).now = s.now := by rw [collisionTold_frame]

theorem collisionTold_motor (q : Quality) (s : State) : (collisionTold q s).motor = s.motor := by
  rw [collisionTold_frame]

theorem heardOut_setReceiver (own : Bool) (q : Quality) (before : Plane) (c : Code) (x : Receiver) (s : State) :
    heardOut own q before c (s.setReceiver x) = (heardOut own q before c s).setReceiver x := rfl

/-- The completion of an assembly whose quality is known. -/
theorem completeCharacter_eq {a : Assembly} {s : State} {q : Quality} {plane : Plane}
    (quality : qualityOf a.own (echoAgrees s a.code) s.lineIn = q)
    (planes : (if s.lineIn then planeFollowing s s.receiver.linePlane a.code else s.receiver.linePlane) = plane) :
    let early := percentOf a.early s.setup.line.unitLength
    let late := percentOf a.late s.setup.line.unitLength
    let entry : Entry :=
      .char a.code plane (some (if a.own then .own else .far)) (some { quality := q, distortion := max early late })
    let told := collisionTold q (heardOut a.own q s.receiver.linePlane a.code (writeTraffic entry s))
    completeCharacter a s =
      { told with
        receiver :=
          { s.receiver with
            state := if s.lineIn then .hunting else .waitMark
            linePlane := plane
            stats := s.receiver.stats.counted q early late s.setup.line.warning }
        motor := idleLoaded s
        events :=
          if s.setup.line.warning ≤ max early late ∧ s.receiver.stats.warning = 0 then occurs 14 none told
          else told.events } := by
  intro early late entry told
  have not_far : a.own = false → q ≠ .collided := fun far => quality ▸ qualityOf_far_ne_collided far
  let received : Receiver :=
    { s.receiver with state := if s.lineIn then .hunting else .waitMark, linePlane := plane }
  have heard :
      wruLookup a.own q s.receiver.linePlane a.code (echoResult a.own q (writeTraffic entry (s.setReceiver received)))
        = told.setReceiver received := by
    rw [wruLookup_echoResult _ _ _ not_far, writeTraffic_setReceiver, heardOut_setReceiver]
    exact collisionTold_setReceiver q received _
  have setup : told.setup = s.setup := (collisionTold_setup q _).trans (by simp [heardOut])
  have now : told.now = s.now := (collisionTold_now q _).trans (by simp [heardOut])
  have motor : told.motor = s.motor := (collisionTold_motor q _).trans (by simp [heardOut])
  have run : completeCharacter a s =
      loadIdle (countCharacter q early late
        (wruLookup a.own q s.receiver.linePlane a.code
          (echoResult a.own q (writeTraffic entry (s.setReceiver received))))) := by
    unfold completeCharacter
    dsimp only
    simp only [planeAfter_eq, quality, planes]
    rfl
  have loads (t : State) (same_setup : t.setup = s.setup) (same_now : t.now = s.now) (same_motor : t.motor = s.motor) :
      idleLoaded t = idleLoaded s := by
    rw [idleLoaded_eq, idleLoaded_eq s, same_setup, same_now, same_motor]
  have warning : (told.setReceiver received).setup.line.warning = s.setup.line.warning := by
    exact congrArg (fun x : Setup => x.line.warning) setup
  rw [run, heard, countCharacter_eq, loadIdle_loaded, warning, loads _ (by exact setup) (by exact now) (by exact motor)]
  rfl

/-- Settles O40: the completion by the quality that the assembly, the echo slot and the stop give. -/
theorem characterCompletion : Obligations.CharacterCompletion := by
  unfold Obligations.CharacterCompletion
  intro a b r before last l instant s found last' u agrees q plane percent d up st written wru answered told
  have sampled : atSample r = some (a, u) := by
    have sample := atSample_of_assembling (a := a) before (by rw [last]; exact found)
    rw [last] at sample
    exact sample
  have setup : u.setup = r.setup := beforeSample_setup instant r
  have quality : qualityOf a.own (echoAgrees u a.code) u.lineIn = q := by
    have agreement : echoAgrees u a.code = agrees := echoAgrees_eq u a.code
    have line : u.lineIn = s.lineIn := rfl
    rw [agreement, line]
    simp only [q]
    generalize a.own = own
    generalize s.lineIn = stop
    clear_value agrees
    cases own <;> cases agrees <;> cases stop <;> rfl
  refine happen_of_some ?_ r
  have run : doCharacterCompletion r = some (completeCharacter a u) := by
    unfold doCharacterCompletion
    simp only [sampled]
    exact if_pos last'
  have heard : heardOut a.own q s.receiver.linePlane a.code written = answered := by
    have transmitter : written.transmitter = s.transmitter := by
      simp only [written]
      rw [writeTraffic_eq_frame]
      rfl
    have controller : written.controller = s.controller := by
      simp only [written]
      rw [writeTraffic_eq_frame]
      rfl
    have tables : written.tables = s.tables := by
      simp only [written]
      rw [writeTraffic_eq_frame]
      rfl
    have keyed : heardTransmitter a.own q s.receiver.linePlane a.code written = answered.transmitter := by
      unfold heardTransmitter
      simp only [transmitter, controller, tables]
      rfl
    unfold heardOut
    rw [keyed]
  have outcome : collisionTold q (heardOut a.own q s.receiver.linePlane a.code written) = told := by
    rw [heard]
    rfl
  have whole := completeCharacter_eq quality (plane := plane) rfl
  rw [setup] at whole
  rw [run]
  refine congrArg some (whole.trans ?_)
  rw [← outcome]
  rfl

end Sys2Proof.Machine
end

section
/-! What the line key sends is what the receiver reads (R48, R49, R60): the samples of a character whose levels the key
gives, and the claim O41. -/

namespace Sys2Proof.Machine

/-! ## The levels at the samples -/

/-- The key's level at the sample instant of unit k, which falls within that unit. -/
theorem characterMark_at_sample {l : LineSetup} (c : Code) (k : Nat) (unit : 0 < l.unitLength) (early : l.orientation < 100) :
    characterMark l.keying c (k * l.unitLength + l.unitLength * l.orientation / 100) =
      if k = 0 then false else if k ≤ 5 then unitMark l.order c k else true := by
  have inside : l.unitLength * l.orientation / 100 < l.unitLength :=
    Nat.div_lt_of_lt_mul (by rw [Nat.mul_comm]; exact Nat.mul_lt_mul_of_pos_right early unit)
  have unit_no : (k * l.unitLength + l.unitLength * l.orientation / 100) / l.unitLength = k := by
    rw [Nat.add_comm, Nat.add_mul_div_right _ _ unit, Nat.div_eq_of_lt inside, Nat.zero_add]
  unfold characterMark LineSetup.keying
  dsimp only
  rw [unit_no]

/-- The code assembled from units 1 to k of a code (R49). -/
def assembledCode (o : UnitOrder) (c : Code) : Nat → Code
  | 0 => 0
  | k + 1 => if unitMark o c (k + 1) then assembledCode o c k ||| unitWeight o (k + 1) else assembledCode o c k

/-- All five units give the code back, in both orders. -/
theorem assembledCode_five : ∀ (o : UnitOrder) (c : Code), assembledCode o c 5 = c := by
  have normal : ∀ c : Code, assembledCode .normal c 5 = c := by decide
  have reversed : ∀ c : Code, assembledCode .reversed c 5 = c := by decide
  intro o c
  cases o with
  | normal => exact normal c
  | reversed => exact reversed c

/-! ## The samples -/

/-- No transition waits for an instant where all of them are stamped later. -/
theorem waitingTransitions_of_later {t : Nat} {s : State}
    (later : ∀ time, (.lineInMarkToSpace time ∈ s.pending ∨ .lineInSpaceToMark time ∈ s.pending) → t < time) :
    waitingTransitions t s = [] := by
  unfold waitingTransitions
  cases waits : ((s.pending.takeWhile fun c => !isPowerOnReset c).filterMap lineChange).drop s.receiver.ahead with
  | nil => rfl
  | cons x rest =>
    have first : x ∈ (s.pending.takeWhile fun c => !isPowerOnReset c).filterMap lineChange :=
      List.mem_of_mem_drop (by rw [waits]; exact List.mem_cons_self)
    obtain ⟨c, there, change⟩ := List.mem_filterMap.1 first
    have queued : c ∈ s.pending := (List.takeWhile_sublist _).subset there
    have late : t < x.2 := by
      cases c <;> simp [lineChange] at change
      · exact change ▸ later _ (.inl queued)
      · exact change ▸ later _ (.inr queued)
    exact List.takeWhile_cons_of_neg (by simp [late])

/-- The receiver after the first n samples of a character of code c that the key sends. -/
structure HeardUpTo (c : Code) (t0 : Nat) (own : Bool) (s : State) (n : Nat) (t : State) : Prop where
  state :
    t.receiver.state =
      .assembling
        { t0 := t0, own := own, next := n, code := assembledCode s.setup.line.order c (n - 1), early := 0, late := 0 }
  setup : t.setup = s.setup
  pending : t.pending = s.pending
  now : t.now = if n = 0 then s.now else s.setup.line.sampleAt t0 (n - 1)

/-- One more sample at the key's level. -/
theorem HeardUpTo.sample {c : Code} {t0 : Nat} {own : Bool} {s t : State} {n : Nat} {level : Bool}
    (h : HeardUpTo c t0 own s n t) (within : n ≤ 5) (clock : s.now ≤ t0)
    (later : ∀ time, (.lineInMarkToSpace time ∈ s.pending ∨ .lineInSpaceToMark time ∈ s.pending) →
      s.setup.line.sampleAt t0 5 < time)
    (sends : level = if n = 0 then false else if n ≤ 5 then unitMark s.setup.line.order c n else true) :
    ∃ u, exec .unitSample (t.setLineIn level) = .next u ∧ HeardUpTo c t0 own s (n + 1) u := by
  let v := t.setLineIn level
  have setup : v.setup = s.setup := h.setup
  have instants {j k : Nat} (le : j ≤ k) : s.setup.line.sampleAt t0 j ≤ s.setup.line.sampleAt t0 k := by
    have units := Nat.mul_le_mul_right s.setup.line.unitLength le
    unfold LineSetup.sampleAt
    omega
  have quiet : beforeSample (s.setup.line.sampleAt t0 n) v = v := by
    refine beforeSample_of_none _ _ (waitingTransitions_of_later fun time queued => ?_)
    exact (instants within).trans_lt (later time (by rwa [← h.pending]))
  have sampled := atSample_of_assembling (r := v) h.state (by rw [setup]; dsimp only; rw [quiet]; exact h.state)
  rw [setup] at sampled
  dsimp only at sampled
  rw [quiet] at sampled
  have on_time : (v.upTo (s.setup.line.sampleAt t0 n)).now = s.setup.line.sampleAt t0 n := by
    have reached : v.now ≤ s.setup.line.sampleAt t0 n := by
      refine h.now.le.trans ?_
      split
      · unfold LineSetup.sampleAt
        omega
      · exact instants (by omega)
    exact Nat.max_eq_right reached
  have done {u : State} (run : doUnitSample v = some u)
      (state : u.receiver.state =
        .assembling
          { t0 := t0, own := own, next := n + 1, code := assembledCode s.setup.line.order c n, early := 0, late := 0 })
      (same : u.setup = t.setup ∧ u.pending = t.pending ∧ u.now = s.setup.line.sampleAt t0 n) :
      ∃ u, exec .unitSample v = .next u ∧ HeardUpTo c t0 own s (n + 1) u := by
    obtain ⟨same_setup, same_pending, same_now⟩ := same
    refine ⟨chooseOutgoing u, happen_of_some run v, ?_, ?_, ?_, ?_⟩
    · simpa using state
    · simpa using same_setup.trans h.setup
    · simpa using same_pending.trans h.pending
    · simpa using same_now
  cases n with
  | zero =>
    exact done (doUnitSample_of_start sampled rfl sends) rfl ⟨rfl, rfl, on_time⟩
  | succ n =>
    refine done (doUnitSample_of_code sampled (by simp) within) ?_ ⟨rfl, rfl, on_time⟩
    have mark : level = unitMark s.setup.line.order c (n + 1) := by
      rw [sends, if_neg (by simp), if_pos within]
    have line : (v.upTo (s.setup.line.sampleAt t0 (n + 1))).lineIn = unitMark s.setup.line.order c (n + 1) := mark
    have order : (v.upTo (s.setup.line.sampleAt t0 (n + 1))).setup = s.setup := setup
    rw [line, order]
    rfl

/-- Settles O41: six samples at the levels of the key assemble the code, and the seventh finds the stop. -/
theorem lineCodeRoundTrip : Obligations.LineCodeRoundTrip := by
  unfold Obligations.LineCodeRoundTrip
  intro c t0 own s range clock start l last later heard sample
  obtain ⟨⟨longest, _⟩, _, ⟨_, orientation⟩, _⟩ := range
  have level (k : Nat) : heard k = if k = 0 then false else if k ≤ 5 then unitMark l.order c k else true :=
    characterMark_at_sample c k (Nat.lt_of_lt_of_le (by decide) longest) (Nat.lt_of_le_of_lt orientation (by decide))
  have sampled (n : Nat) (within : n ≤ 6) :
      ∃ t, (List.range n).foldlM sample s = some t ∧ HeardUpTo c t0 own s n t := by
    induction n with
    | zero => exact ⟨s, rfl, start, rfl, rfl, rfl⟩
    | succ n ih =>
      obtain ⟨t, before, heard_before⟩ := ih (by omega)
      obtain ⟨u, run, heard_after⟩ := heard_before.sample (by omega) clock later (level n)
      refine ⟨u, ?_, heard_after⟩
      have one : sample t n = some u := by
        simp only [sample]
        rw [run]
      rw [List.range_succ, List.foldlM_append, before]
      simp [one]
  obtain ⟨t, run, heard_all⟩ := sampled 6 le_rfl
  refine ⟨by rw [level]; rfl, by rw [level]; rfl, t, run, ?_, heard_all.now⟩
  rw [heard_all.state, assembledCode_five]

end Sys2Proof.Machine
end
